-- ==== Sys2Proof/Word.lean ====
section
/-! DEFINITION. The byte and the bit-vector widths that frames, telegrams and records are made of. -/

namespace Sys2Proof

/-- One byte of a frame, a telegram or a door bus answer. -/
abbrev Byte := BitVec 8

end Sys2Proof
end

