-- ==== Sys2Proof/Syntax.lean ====
section
/-! DEFINITION. The commands of the NK-460: one constructor of `Instr` for each row of
spec/opcode_table.json, with the operands its rule gives it.

An operand that a rule checks against a list of names is an `Option`: `none` stands for every code
that names nothing, which the rule then refuses with RANGE. -/

namespace Sys2Proof

/-- A direction on the line, 00_scope.md "Chainage, direction and gradient"; also which way end 1
faces (R10). -/
inductive Dir
  | up | down
  deriving DecidableEq, Repr

/-- A car side (00_scope.md "Sides"). -/
inductive Side
  | left | right
  deriving DecidableEq, Repr

/-- The side of CLOSE_DOORS (R134). -/
inductive SideSel
  | one (side : Side)
  | both
  deriving DecidableEq, Repr

/-- A bogie of the car (R36). -/
inductive Bogie
  | a | b
  deriving DecidableEq, Repr

/-- A pinion brake channel (R105). -/
inductive Channel
  | a | b
  deriving DecidableEq, Repr

/-- The sense of a counted edge (R36). -/
inductive Sense
  | towardsEnd1 | towardsEnd2
  deriving DecidableEq, Repr

/-- A door, and the door unit that serves it (R124). -/
inductive DoorNo
  | d1 | d2 | d3 | d4
  deriving DecidableEq, Repr

/-- The brake levels in rising order (R84). -/
inductive Level
  | none | notify | cut | service | full | emergency
  deriving DecidableEq, Repr

/-- The latch modes (R86). -/
inductive LatchMode
  | flow | latch | latchStandstill
  deriving DecidableEq, Repr

/-- What a restriction applies to (R175). -/
inductive AppliesTo
  | both | up | down
  deriving DecidableEq, Repr

/-- What every request frame carries beside its own fields (R185): the tag its reply echoes, and
whether the payload has the length its kind carries (check 3 of R185, `requestFits`). Where it has not,
the other operands carry no meaning. -/
structure Req where
  tag : Byte
  lengthFits : Bool
  deriving DecidableEq, Repr

/-- The 47 fields of the car configuration record, in record order (table before R11). The record
as a request carries it: a side of `none` is a code that is neither LEFT nor RIGHT. -/
structure CarConfig where
  carIdentity : Nat
  length : Nat
  bogieA : Nat
  bogieB : Nat
  reader : Nat
  side1 : Option Side
  side2 : Option Side
  side3 : Option Side
  side4 : Option Side
  rackPitch : Nat
  pulsesPerRev : Nat
  circInitial : Nat
  circMin : Nat
  circMax : Nat
  calStep : Nat
  calMin : Nat
  calMax : Nat
  calDeadBand : Nat
  wheelGrowth : Nat
  aSb : Nat
  aEb : Nat
  tSb : Nat
  tEb : Nat
  sbMargin : Nat
  ebMargin : Nat
  blendSpeed : Nat
  feedbackTime : Nat
  maxRack : Nat
  maxAdhesion : Nat
  rackEntryLimit : Nat
  degradedCeiling : Nat
  lookAhead : Nat
  uMax : Nat
  rollAway : Nat
  meshTolerance : Nat
  silenceTime : Nat
  shadowSilence : Nat
  reportInterval : Nat
  ackTimeout : Nat
  doorAttempts : Nat
  reopenDwell : Nat
  testHold : Nat
  testSettle : Nat
  testCycles : Nat
  creepTolerance : Nat
  wakeInterval : Nat
  linkSilence : Nat
  deriving DecidableEq, Repr

/-- The eleven bytes of a segment record in its load request (11_car_link.md, "Profile records"). -/
structure SegmentBytes where
  start : BitVec 24
  kind : Byte
  gradient : BitVec 16
  limitUp : BitVec 16
  limitDown : BitVec 16
  flags : Byte
  deriving DecidableEq, Repr

/-- The eight bytes of a station record in its load request. -/
structure StationBytes where
  identity : Byte
  platformStart : BitVec 24
  platformEnd : BitVec 24
  trackSide : Byte
  deriving DecidableEq, Repr

/-- The seven bytes of a marker record in its load request (R20). -/
structure MarkerRec where
  identity : BitVec 16
  chainage : BitVec 24
  accuracy : BitVec 16
  deriving DecidableEq, Repr

/-- A valid downlink telegram without its kind (11_car_link.md, "Radio telegram"). -/
structure Telegram where
  identity : Byte
  seq : Byte
  payload : List Byte
  deriving DecidableEq, Repr

/-- The first five bytes of a door unit's answer whose CRC-8 is right, less its report code. -/
structure AnswerBytes where
  address : Byte
  leaf : Byte
  stateByte : Byte
  faultCode : Byte
  deriving DecidableEq, Repr

/-- The commands: the rows of spec/opcode_table.json, in its order. -/
inductive Instr
  /-- POWER_ON (R13). -/
  | powerOn
  /-- BATTERY_SAMPLE (R120): the battery sense in tenths of a volt. -/
  | batterySample (deciVolts : Nat)
  /-- CONFIGURE_CAR (R11). -/
  | configureCar (q : Req) (record : CarConfig)
  /-- SET_ORIENTATION (R10): which way end 1 faces; `none` is any other code. -/
  | setOrientation (q : Req) (value : Option Dir)
  /-- ENTER_SERVICE (R5). -/
  | enterService (q : Req)
  /-- ENTER_STABLED (R6). -/
  | enterStabled (q : Req)
  /-- WAKE (R7). -/
  | wake (q : Req)
  /-- ENTER_PREPARATION (R9). -/
  | enterPreparation (q : Req)
  /-- RESTART (R14). -/
  | restart (q : Req)
  /-- WARM_RESTART (R14): the end of the RESTART reply's last byte. -/
  | warmRestart
  /-- GET_RESET_RECORD (R15). -/
  | getResetRecord (q : Req)
  /-- CLEAR_RESET_RECORD (R15). -/
  | clearResetRecord (q : Req)
  /-- WAKE_TIMER_EXPIRY (R7). -/
  | wakeTimerExpiry
  /-- LOAD_LINE (R23). -/
  | loadLine (q : Req) (lineLength : BitVec 24) (version : BitVec 32)
  /-- LOAD_SEGMENT (R24). -/
  | loadSegment (q : Req) (index : Byte) (record : SegmentBytes)
  /-- LOAD_STATION (R25). -/
  | loadStation (q : Req) (index : Byte) (record : StationBytes)
  /-- LOAD_MARKER (R25). -/
  | loadMarker (q : Req) (index : Byte) (record : MarkerRec)
  /-- CLEAR_LOAD (R26). -/
  | clearLoad (q : Req)
  /-- COMMIT_PROFILE (R27). -/
  | commitProfile (q : Req)
  /-- GET_PROFILE_INFO (R34). -/
  | getProfileInfo (q : Req)
  /-- GET_SEGMENT (R34). -/
  | getSegment (q : Req) (index : Nat)
  /-- RACK_TOOTH_EDGE (R36). -/
  | rackToothEdge (bogie : Bogie) (sense : Sense)
  /-- PINION_TOOTH_EDGE (R36). -/
  | pinionToothEdge (bogie : Bogie) (sense : Sense)
  /-- WHEEL_PULSE (R39). -/
  | wheelPulse (sense : Sense)
  /-- MESH_WINDOW_END (R50): the rack tooth that is the 32nd of the bogie's mesh window (log 4). -/
  | meshWindowEnd (bogie : Bogie) (sense : Sense)
  /-- CALIBRATION_WINDOW_END (R58): the rack tooth that is the 64th after the window's first (log 4). -/
  | calibrationWindowEnd
  /-- MARKER_READ (R44). -/
  | markerRead (identity : BitVec 16)
  /-- SET_POSITION (R46). -/
  | setPosition (q : Req) (chainage uncertainty : Nat)
  /-- GET_ODOMETRY (R62), with its part number (R187). -/
  | getOdometry (q : Req) (part : Byte)
  /-- SPEED_SAMPLE (R54), with the handle's reading in per mille and its fault sense (R97). -/
  | speedSample (handle : Nat) (handleFault : Bool)
  /-- STANDSTILL_SET (R55): the sample that is the 20th consecutive quiet one (log 4). -/
  | standstillSet
  /-- GET_SUPERVISION (R81). -/
  | getSupervision (q : Req) (part : Byte)
  /-- PLUNGER_EDGE (R96): the level of the line after the edge. -/
  | plungerEdge (active : Bool)
  /-- SET_REACTION (R87). -/
  | setReaction (q : Req) (source : Nat) (level : Option Level) (mode : Option LatchMode)
  /-- ACK_DEMAND (R91). -/
  | ackDemand (q : Req) (source : Nat)
  /-- BRAKE_REQUEST (R98). -/
  | brakeRequest (q : Req) (level : Option Level) (deceleration : Nat)
  /-- GET_DEMANDS (R103). -/
  | getDemands (q : Req) (part : Byte)
  /-- FEEDBACK_EDGE (R111): the contact after the edge, `true` for closed (released). -/
  | feedbackEdge (channel : Channel) (released : Bool)
  /-- FEEDBACK_TIMER_EXPIRY (R111). -/
  | feedbackTimerExpiry (channel : Channel)
  /-- ELECTRIC_BRAKE_AVAILABLE_EDGE (R108): the level of the line after the edge. -/
  | electricBrakeAvailableEdge (active : Bool)
  /-- START_BRAKE_TEST (R114), with its hold point, cycle and phase number, if given. -/
  | startBrakeTest (q : Req) (hold : Option (Nat × Nat))
  /-- STOP_BRAKE_TEST (R118). -/
  | stopBrakeTest (q : Req)
  /-- PHASE_TIMER_EXPIRY (R115). -/
  | phaseTimerExpiry
  /-- GET_TEST (R123). -/
  | getTest (q : Req) (part : Byte)
  /-- RELEASE_DOORS (R130). -/
  | releaseDoors (q : Req) (side : Option Side)
  /-- CLOSE_DOORS (R134). -/
  | closeDoors (q : Req) (side : Option SideSel)
  /-- ISOLATE_DOOR (R136). -/
  | isolateDoor (q : Req) (door : Nat)
  /-- DEISOLATE_DOOR (R137). -/
  | deisolateDoor (q : Req) (door : Nat)
  /-- GET_DOORS (R141). -/
  | getDoors (q : Req) (part : Byte)
  /-- REOPEN_DWELL_EXPIRY (R134). -/
  | reopenDwellExpiry (door : DoorNo)
  /-- POLL_SENT (R143). -/
  | pollSent
  /-- DOOR_ANSWER_REPORT (R144): six bytes with the report code REPORT and a right CRC-8. -/
  | doorAnswerReport (answer : AnswerBytes)
  /-- DOOR_ANSWER_WAIT (R145): six bytes with the report code WAIT and a right CRC-8. -/
  | doorAnswerWait (answer : AnswerBytes)
  /-- REPEAT_POLL (R145). -/
  | repeatPoll
  /-- BAD_ANSWER (R146): the six bytes of an answer. -/
  | badAnswer (bytes : List Byte)
  /-- ANSWER_WINDOW_CLOSE (R146). -/
  | answerWindowClose
  /-- CLEAR_DOOR_FLAGS (R149). -/
  | clearDoorFlags (q : Req) (unit : Nat)
  /-- LOGON_ACCEPT (R152). -/
  | logonAccept (t : Telegram)
  /-- LOGON_TIMER_EXPIRY (R154). -/
  | logonTimerExpiry
  /-- SILENCE_TIMER_EXPIRY (R155). -/
  | silenceTimerExpiry
  /-- REPORT_INTERVAL_EXPIRY (R162). -/
  | reportIntervalExpiry
  /-- ACK_TIMEOUT_EXPIRY (R165): the sequence number of the entry. -/
  | ackTimeoutExpiry (seq : Byte)
  /-- TELEGRAM_SENT (R166). -/
  | telegramSent
  /-- DOWNLINK_DISCARDED (R157): the bytes the modem delivered. -/
  | downlinkDiscarded (bytes : List Byte)
  /-- TELEGRAM_ASSEMBLY_TIMEOUT (R157). -/
  | telegramAssemblyTimeout
  /-- UNKNOWN_TELEGRAM_KIND (R157). -/
  | unknownTelegramKind (kind : Byte) (t : Telegram)
  /-- UPLINK_ACK (R164). -/
  | uplinkAck (t : Telegram)
  /-- POLL (R162). -/
  | poll (t : Telegram)
  /-- AUTHORITY_GRANT (R172). -/
  | authorityGrant (t : Telegram)
  /-- AUTHORITY_SHORTEN (R173). -/
  | authorityShorten (t : Telegram)
  /-- AUTHORITY_WITHDRAW (R174). -/
  | authorityWithdraw (t : Telegram)
  /-- AUTHORITY_EXPIRY (R171). -/
  | authorityExpiry
  /-- RESTRICTION_SET (R176). -/
  | restrictionSet (t : Telegram)
  /-- RESTRICTION_LIFT (R177). -/
  | restrictionLift (t : Telegram)
  /-- STOP_ORDER (R181). -/
  | stopOrder (t : Telegram)
  /-- STOP_RELEASE (R181). -/
  | stopRelease (t : Telegram)
  /-- GET_RADIO (R168), with the CARRIER line as it reads when the reply is formed (log 26). -/
  | getRadio (q : Req) (part : Byte) (carrier : Bool)
  /-- SELECT_DIRECTION (R169): `some none` is NONE; `none` is any other code. -/
  | selectDirection (q : Req) (value : Option (Option Dir))
  /-- REQUEST_AUTHORITY (R170). -/
  | requestAuthority (q : Req)
  /-- GET_AUTHORITY (R182). -/
  | getAuthority (q : Req) (part : Byte)
  /-- ADD_RESTRICTION (R180). -/
  | addRestriction (q : Req) (identity start stop limit : Nat) (applies : Option AppliesTo)
  /-- LIFT_RESTRICTION (R180). -/
  | liftRestriction (q : Req) (identity : Nat)
  /-- ACCEPT_RELAXATIONS (R179). -/
  | acceptRelaxations (q : Req)
  /-- GET_RESTRICTIONS (R182). -/
  | getRestrictions (q : Req) (part : Byte)
  /-- GET_STATUS (R188). -/
  | getStatus (q : Req)
  /-- UNKNOWN_KIND (R185): the tag and the kind byte of the frame. -/
  | unknownKind (tag kind : Byte)
  /-- FRAME_DISCARDED (R183): the bytes received. -/
  | frameDiscarded (bytes : List Byte)
  /-- FRAME_ASSEMBLY_TIMEOUT (R183). -/
  | frameAssemblyTimeout
  /-- LINK_SILENCE_TIMER_EXPIRY (R184). -/
  | linkSilenceTimerExpiry
  /-- FRAME_SENT (R186). -/
  | frameSent
  deriving DecidableEq, Repr

end Sys2Proof
end

