-- ==== Sys2Proof/Machine/Records.lean ====
section
/-! DEFINITION. The records the eleven blocks keep, as plain data, and the device that holds them
all. Each structure cites the rule that lists its fields. -/

namespace Sys2Proof.Machine

/-- Two like records, one for bogie or channel A and one for B. -/
structure Pair (α : Type) where
  a : α
  b : α
  deriving DecidableEq, Repr

/-- Four like records, one for each door or door unit. -/
structure Quad (α : Type) where
  d1 : α
  d2 : α
  d3 : α
  d4 : α
  deriving DecidableEq, Repr

/-- A running timer: when it was started and how long it runs, in microseconds. A stopped timer is
`none` where it is held. -/
structure Timer where
  start : Nat
  length : Nat
  deriving DecidableEq, Repr

/-! ### The lines (00_scope.md, "Pins and lines") -/

/-- The levels of the input lines that have edges, as they stand now. -/
structure Pins where
  plunger : Bool
  releasedA : Bool
  releasedB : Bool
  edbAvail : Bool
  carrier : Bool
  deriving DecidableEq, Repr

/-! ### Mode Control -/

/-- The five car modes (R1). -/
inductive Mode
  | preparation | service | degraded | stabled | waking
  deriving DecidableEq, Repr

/-- The last cause of the reset record (R15). -/
inductive ResetCause
  | powerOn | supply | restart
  deriving DecidableEq, Repr

/-- What Mode Control keeps (R1, R2, R3, R7, R10, R11, R15). The configuration valid flag is the
presence of `config`: the flag is set by every accepted record and cleared by the resets that drop
the record, so the two go together (R11, R13). -/
structure Mdc where
  mode : Mode
  causePosition : Bool
  causeRadio : Bool
  config : Option CarConfig
  orientation : Option Dir
  startUpHold : Bool
  wakeTimer : Option Timer
  lastCause : ResetCause
  supplyFlag : Bool
  deriving DecidableEq, Repr

/-! ### Profile Store -/

/-- The kind of a segment (R17). -/
inductive Kind
  | rack | rackEntry | adhesion
  deriving DecidableEq, Repr

/-- A segment record (R17). -/
structure Segment where
  start : BitVec 24
  kind : Kind
  gradient : BitVec 16
  limitUp : BitVec 16
  limitDown : BitVec 16
  radioShadow : Bool
  noStop : Bool
  deriving DecidableEq, Repr

/-- The track side of a platform (R19). -/
inductive TrackSide
  | leftOfUp | rightOfUp | both
  deriving DecidableEq, Repr

/-- A station record (R19). -/
structure Station where
  identity : Byte
  platformStart : BitVec 24
  platformEnd : BitVec 24
  trackSide : TrackSide
  deriving DecidableEq, Repr

/-- The current profile (R16). -/
structure Profile where
  lineLength : BitVec 24
  version : BitVec 32
  digest : Option (BitVec 32)
  segments : List Segment
  stations : List Station
  markers : List MarkerRec
  deriving DecidableEq, Repr

/-- The load area (section 2.2): the filled slots of each table with their index, in strictly
rising index; an unlisted slot is empty. -/
structure LoadArea where
  lineLength : BitVec 24
  version : BitVec 32
  segments : List (Nat × Segment)
  stations : List (Nat × Station)
  markers : List (Nat × MarkerRec)
  deriving DecidableEq, Repr

/-- What the Profile Store keeps (R16, R22). -/
structure Prs where
  cur : Profile
  valid : Bool
  load : LoadArea
  deriving DecidableEq, Repr

/-! ### Odometry Unit -/

/-- The mesh state of a bogie (table before R48). -/
inductive MeshState
  | offRack | entering | meshed | fault
  deriving DecidableEq, Repr

/-- A bogie's mesh record (R48 to R51). `pinionCount` counts since the last rack tooth in ENTERING
and in the mesh window in MESHED. -/
structure MeshRec where
  state : MeshState
  rackCount : Nat
  pinionCount : Nat
  matched : Nat
  missing : Nat
  deriving DecidableEq, Repr

/-- The distance source (R38). -/
inductive Source3
  | rack (bogie : Bogie)
  | wheel
  deriving DecidableEq, Repr

/-- The leaning of the calibration counter and a vote (R58, R59). -/
inductive Leaning
  | longer | shorter
  deriving DecidableEq, Repr

/-- The wheel calibration (R59): circumference in 0.1 mm, counter C and leaning. -/
structure Calib where
  circumference : Nat
  counter : Nat
  leaning : Leaning
  deriving DecidableEq, Repr

/-- A calibration window in progress (R57): the sense of its first tooth, the rack teeth after the
first and the wheel pulses, all in that sense. -/
structure CalWindow where
  sense : Sense
  teeth : Nat
  pulses : Nat
  deriving DecidableEq, Repr

/-- What the Odometry Unit keeps (R36 to R62). -/
structure Odu where
  known : Bool
  position : Nat
  uBase : Nat
  wheelRun : Nat
  conflict : Bool
  clamp : Bool
  lastMarker : Option (BitVec 16)
  dir : Option Dir
  bogies : Pair MeshRec
  source : Source3
  calib : Option Calib
  window : Option CalWindow
  remainder : Int
  sampleAcc : Nat
  dists : List Nat
  speed : Nat
  quiet : Nat
  edgeSince : Bool
  standstill : Bool
  reverseAcc : Nat
  anyAcc : Nat
  deriving DecidableEq, Repr

/-! ### Speed Supervisor -/

/-- The kind of a target (R68, R69). -/
inductive TargetKind
  | noAuthority | lineEnd | restriction | segment | maEnd
  deriving DecidableEq, Repr

/-- A target of the list (R81). The point is absent only for NO_AUTHORITY while the car has no
direction of travel and so no front (R65). -/
structure Target where
  point : Option Int
  distance : Nat
  speed : Nat
  kind : TargetKind
  deriving DecidableEq, Repr

/-- A target as the notice SUPERVISION_STATUS shows it (R76). -/
structure ShownTarget where
  kind : TargetKind
  distance : Nat
  speed : Nat
  deriving DecidableEq, Repr

/-- The supervision status (R76). -/
inductive Status
  | normal | warning | intervention
  deriving DecidableEq, Repr

/-- gd, a_s and a_e of the most restrictive target (R81). -/
structure Decels where
  gd : Nat
  service : Nat
  emergency : Nat
  deriving DecidableEq, Repr

/-- The supervision record (R81). -/
structure Ssv where
  modeEvaluated : Option Mode
  v : Nat
  pc : Nat
  p : Nat
  e : Nat
  status : Status
  overspeedSb : Bool
  overspeedEb : Bool
  authority : Bool
  targets : List Target
  mostRestrictive : Option Nat
  decels : Option Decels
  deriving DecidableEq, Repr

/-! ### Brake Demand Table -/

/-- The 21 sources in number order (table of R84). -/
inductive Source
  | plunger | overspeedEb | mesh | rollaway | authority | brakeFault | valleyStop
  | doorMoving | rackEntry | brakeTest | mode | overspeedSb | position | radioLoss
  | restrictionFull | passengerAlarm | doorHold | linkSilent | linkRequest | driverHandle
  | supplyLow
  deriving DecidableEq, Repr

/-- The state of an entry (R88). -/
inductive EntryState
  | idle | active | held | deferred
  deriving DecidableEq, Repr

/-- A chainage at raise (R85): UNPLACED or a chainage. -/
inductive RaisePlace
  | unplaced
  | at (chainage : Int)
  deriving DecidableEq, Repr

/-- An entry with its row of the reaction table (R86, R88). `carried` is the level of the last
raise of a carried-level source. -/
structure Entry where
  src : Source
  state : EntryState
  cond : Bool
  carried : Level
  decel : Option Nat
  raisedAt : Option RaisePlace
  cfgLevel : Level
  mode : LatchMode
  deriving DecidableEq, Repr

/-- What the Brake Demand Table keeps (R86 to R97). -/
structure Bdt where
  entries : List Entry
  applied : Level
  governing : Option Source
  hold : Bool
  svcDecel : Nat
  handleFaulty : Bool
  deriving DecidableEq, Repr

/-! ### Brake Actuation Unit -/

/-- The commanded state of a channel (R105). -/
inductive Commanded
  | released | serviceApplied | fullApplied | springApplied
  deriving DecidableEq, Repr

/-- The drive of a full-service valve (R107): the duty of a pulsed drive is in per mille. -/
inductive ValveDrive
  | off | on
  | pulsed (duty : Nat)
  deriving DecidableEq, Repr

/-- A channel record with its valve drives (R105, R107). -/
structure ChannelRec where
  commanded : Commanded
  released : Bool
  timer : Option Timer
  fault : Bool
  releaseValve : Bool
  fullValve : ValveDrive
  deriving DecidableEq, Repr

/-- The result of the test record (R113). -/
inductive TestResult
  | none | running | passed | failed | aborted
  deriving DecidableEq, Repr

/-- The end cause of the test record (R113). -/
inductive EndCause
  | completed | creep | feedback | emergency | standstillLost | stopped | restart
  deriving DecidableEq, Repr

/-- The four phases of a cycle, numbered 1 to 4 (table before R113). -/
inductive Phase
  | aOnly | settle1 | bOnly | settle2
  deriving DecidableEq, Repr

/-- The test record (R113). -/
structure TestRec where
  result : TestResult
  endCause : Option EndCause
  holdPoint : Option (Nat × Phase)
  phaseReached : Option Phase
  cycleReached : Option Nat
  movement : Nat
  deriving DecidableEq, Repr

/-- The test sequencer while a test runs (R115, R116, R118). A held phase has no timer. -/
structure TestRun where
  phase : Phase
  cycle : Nat
  timer : Option Timer
  guard : Bool
  movement : Nat
  deriving DecidableEq, Repr

/-- The states of the supply watch (R120). -/
inductive Watch
  | normal | low | cutoff
  deriving DecidableEq, Repr

/-- What the Brake Actuation Unit keeps (R105 to R123). -/
structure Bau where
  channels : Pair ChannelRec
  blend : Bool
  ebLine : Bool
  edbDemand : Nat
  traction : Bool
  test : TestRec
  run : Option TestRun
  watch : Watch
  reading : Nat
  firstSample : Bool
  resetCause : ResetCause
  deriving DecidableEq, Repr

/-! ### Door Control Unit and Door Bus Master -/

/-- The state of a door (R124). -/
inductive DoorState
  | unknown | locked | closed | released | opening | open | closing | reversing | obstructed
  | isolated | fault
  deriving DecidableEq, Repr

/-- The order in force (R126). -/
inductive Order
  | lock | release | close | reopen
  deriving DecidableEq, Repr

/-- The leaf position of a report (R125). -/
inductive Leaf
  | closed | opening | open | closing
  deriving DecidableEq, Repr

/-- A report (R125). -/
structure Report where
  leaf : Leaf
  locked : Bool
  obstruction : Bool
  button : Bool
  alarm : Bool
  faultCode : Byte
  deriving DecidableEq, Repr

/-- A door record (R124). -/
structure DoorRec where
  state : DoorState
  order : Order
  attempts : Nat
  dwell : Option Timer
  last : Option Report
  deriving DecidableEq, Repr

/-- The release record (R132): the released side and the time of release in seconds. -/
structure Release where
  side : Side
  time : Nat
  deriving DecidableEq, Repr

/-- What the Door Control Unit keeps (R124). -/
structure Dcu where
  doors : Quad DoorRec
  release : Option Release
  deriving DecidableEq, Repr

/-- The link state of a door unit (R147). -/
inductive UnitLink
  | unknown | ok | lost
  deriving DecidableEq, Repr

/-- A link record (R148). The age of the last good report is counted from when it was taken. -/
structure LinkRec where
  link : UnitLink
  misses : Nat
  missFlag : Bool
  waitFlag : Bool
  last : Option (Report × Nat)
  deriving DecidableEq, Repr

/-- How far a transaction has come (R142, R143, R145): a poll on the line with its bytes, DB_DE
driven; an answer window open since a time; or a repeat poll due at a time. -/
inductive Stage
  | polling (bytes : List Byte)
  | window (openedAt : Nat)
  | repeatDue (time : Nat)
  deriving DecidableEq, Repr

/-- The transaction in progress (R142 to R145). `abandoned` says that its door was isolated during
it (R150). -/
structure Trans where
  unit : DoorNo
  stage : Stage
  repeatNo : Nat
  start : Nat
  abandoned : Bool
  deriving DecidableEq, Repr

/-- What the Door Bus Master keeps (R142, R148). -/
structure Dbm where
  links : Quad LinkRec
  turn : DoorNo
  trans : Option Trans
  deriving DecidableEq, Repr

/-! ### Valley Radio Unit -/

/-- The radio link states (R152). -/
inductive LinkState
  | offline | loggingOn | online | lost | refused
  deriving DecidableEq, Repr

/-- The event that caused a change of link state, carried by RADIO_LINK (R152). -/
inductive LinkEvent
  | flagCleared | bothValid | logonOk | profileMismatch | silence | commit
  deriving DecidableEq, Repr

/-- The kinds of outbox entry (R161). -/
inductive UplinkKind
  | positionReport | eventReport | authorityRequest | logon
  deriving DecidableEq, Repr

/-- The result codes (table of chapter 10, and BAD_TELEGRAM of R159). -/
inductive Result
  | applied | staged | interim | full | wrongDirection | behindCar | noPosition
  | stopPossible | stopNotPossible | invalid | badTelegram
  deriving DecidableEq, Repr

/-- An outbox entry (R161, R165). `awaiting` is AWAITING_ACK; `due` is due for sending again. -/
structure OutEntry where
  seq : Byte
  kind : UplinkKind
  payload : List Byte
  awaiting : Bool
  sendCount : Nat
  lastSend : Option Nat
  due : Bool
  timeout : Option Timer
  deriving DecidableEq, Repr

/-- What the telegram on the line is: an acknowledgement, or the sending of an entry that still
stands (`some seq`) or has left or been replaced meanwhile (`none`) (R154, R164, R166). -/
structure TxJob where
  bytes : List Byte
  entry : Option Byte
  deriving DecidableEq, Repr

/-- What the Valley Radio Unit keeps (records of chapter 9). -/
structure Vru where
  link : LinkState
  logonTimer : Option Timer
  silence : Option Nat
  shadow : Bool
  reportTimer : Option Timer
  outbox : List OutEntry
  seqCounter : Byte
  dupWindow : List (Byte × Result)
  ackList : List (Byte × Result)
  tx : Option TxJob
  rx : Option (List Byte × Nat)
  lastLogon : Option (BitVec 32 × Option (BitVec 32))
  deriving DecidableEq, Repr

/-! ### Authority and Restriction Unit -/

/-- The movement authority (R171). -/
structure Authority where
  identity : Nat
  dir : Dir
  stop : Nat
  expiry : Option Nat
  withdrawn : Bool
  deriving DecidableEq, Repr

/-- A restriction entry (R175). The origin is VALLEY or CAR. -/
structure Restriction where
  identity : Nat
  start : Nat
  stop : Nat
  limit : Nat
  applies : AppliesTo
  fromValley : Bool
  deriving DecidableEq, Repr

/-- A staged change (R175): a final entry or a LIFT. -/
inductive Staged
  | final (entry : Restriction)
  | lift (identity : Nat)
  deriving DecidableEq, Repr

/-- What the Authority and Restriction Unit keeps (table of chapter 10). -/
structure Aru where
  selDir : Option Dir
  auth : Option Authority
  timer : Option Timer
  current : List Restriction
  staged : List Staged
  stopOrder : Bool
  deriving DecidableEq, Repr

/-! ### Car Link Port -/

/-- The reason codes of replies (R185). -/
inductive Reason
  | unknownKind | badLength | range | wrongMode | notStandstill | busy | notConfigured
  | noProfile | checkFailed | conditionPresent | notHeld | notAllowed | full | notFound
  | platform | brakesNotApplied | orientationUnset | testNotPassed | positionUnknown
  deriving DecidableEq, Repr

/-- The fifteen notices (R189), with what each carries. -/
inductive Notice
  | started (cause : ResetCause) (supplyFlag : Bool)
  | mode (mode : Mode) (causePosition causeRadio : Bool)
  | brakeLevel (applied : Level) (governing : Option Source) (hold : Bool)
  | demand (src : Source) (state : EntryState) (cond : Bool) (level : Level)
      (raisedAt : Option RaisePlace)
  | supervisionStatus (status : Status) (v pc p e : Nat) (most : Option ShownTarget)
  | door (door : DoorNo) (state : DoorState) (order : Order) (attempts : Nat)
  | radioLink (state : LinkState) (event : LinkEvent)
  | restrictionsPending (count : Nat)
  | testResult (record : TestRec)
  | supply (state : Watch) (reading : Nat)
  | handleFault (raw : Nat) (sense : Bool)
  | markerUnknown (identity : BitVec 16)
  | calibrationLimit (circumference : Nat) (leaning : Leaning)
  | outboxFull (kind : UplinkKind)
  | reportUndelivered (seq : Byte) (kind : UplinkKind)
  deriving DecidableEq, Repr

/-- A bogie as GET_ODOMETRY shows it (R62): its mesh state and, while placed, its chainage and the
kind under it. -/
structure BogieView where
  state : MeshState
  place : Option (Int × Kind)
  deriving DecidableEq, Repr

/-- The contents of GET_ODOMETRY (R62). -/
structure OdometryView where
  known : Bool
  position : Nat
  u : Nat
  conflict : Bool
  clamp : Bool
  lastMarker : Option (BitVec 16)
  dir : Option Dir
  travelDir : Option Dir
  speed : Nat
  standstill : Bool
  source : Source3
  bogies : Pair BogieView
  calib : Option Calib
  deriving DecidableEq, Repr

/-- An entry as GET_DEMANDS shows it: the fields of R88. -/
structure EntryView where
  src : Source
  state : EntryState
  cond : Bool
  level : Level
  decel : Option Nat
  raisedAt : Option RaisePlace
  cfgLevel : Option Level
  mode : LatchMode
  deriving DecidableEq, Repr

/-- The contents of GET_DEMANDS (R103). -/
structure DemandsView where
  entries : List EntryView
  applied : Level
  governing : Option Source
  hold : Bool
  svcDecel : Nat
  deriving DecidableEq, Repr

/-- The phase in effect as GET_TEST shows it (R123): no time left means that the phase is held. -/
structure RunView where
  phase : Phase
  timeLeft : Option Nat
  movement : Nat
  guard : Bool
  deriving DecidableEq, Repr

/-- A channel as GET_TEST shows it (R123). -/
structure ChannelView where
  commanded : Commanded
  released : Bool
  timerRuns : Bool
  fault : Bool
  deriving DecidableEq, Repr

/-- The contents of GET_TEST (R123). -/
structure TestView where
  test : TestRec
  run : Option RunView
  channels : Pair ChannelView
  blend : Bool
  ebLine : Bool
  edbDemand : Nat
  traction : Bool
  watch : Watch
  reading : Nat
  deriving DecidableEq, Repr

/-- A door and its unit's link record as GET_DOORS shows them (R141); the age is in ms. -/
structure DoorView where
  state : DoorState
  order : Order
  attempts : Nat
  dwellLeft : Option Nat
  last : Option Report
  link : UnitLink
  misses : Nat
  missFlag : Bool
  waitFlag : Bool
  lastGood : Option (Report × Nat)
  deriving DecidableEq, Repr

/-- The contents of GET_DOORS (R141). -/
structure DoorsView where
  doors : Quad DoorView
  release : Option Release
  doorHold : Bool
  doorMoving : Bool
  passengerAlarm : Bool
  deriving DecidableEq, Repr

/-- An outbox entry as GET_RADIO shows it (R168). -/
structure OutView where
  seq : Byte
  kind : UplinkKind
  awaiting : Bool
  sendCount : Nat
  sinceSend : Option Nat
  deriving DecidableEq, Repr

/-- The contents of GET_RADIO (R168). Times are in microseconds; the limit in seconds. -/
structure RadioView where
  link : LinkState
  carrier : Bool
  identity : Option Nat
  lastLogon : Option (BitVec 32 × Option (BitVec 32))
  silenceElapsed : Option Nat
  limit : Option Nat
  shadow : Bool
  logonLeft : Option Nat
  reportLeft : Option Nat
  outbox : List OutView
  dupWindow : List (Byte × Result)
  ackCount : Nat
  seqCounter : Byte
  sending : Bool
  deriving DecidableEq, Repr

/-- The contents of GET_AUTHORITY (R182). -/
structure AuthorityView where
  selDir : Option Dir
  auth : Option Authority
  timeLeft : Option Nat
  stopOrder : Bool
  deriving DecidableEq, Repr

/-- The contents of GET_RESTRICTIONS (R182). -/
structure RestrictionsView where
  current : List Restriction
  staged : List Staged
  deriving DecidableEq, Repr

/-- The contents of one of the eight long queries (R187). -/
inductive Contents
  | odometry (v : OdometryView)
  | supervision (v : Ssv)
  | demands (v : DemandsView)
  | test (v : TestView)
  | doors (v : DoorsView)
  | radio (v : RadioView)
  | authority (v : AuthorityView)
  | restrictions (v : RestrictionsView)
  deriving DecidableEq, Repr

/-- The kind of a long query (R187). -/
inductive QueryKind
  | odometry | supervision | demands | test | doors | radio | authority | restrictions
  deriving DecidableEq, Repr

/-- The values of the GET_STATUS reply (R188). -/
structure StatusView where
  mode : Mode
  causePosition : Bool
  causeRadio : Bool
  configValid : Bool
  profileValid : Bool
  orientation : Option Dir
  applied : Level
  governing : Option Source
  hold : Bool
  standstill : Bool
  link : LinkState
  allSecured : Bool
  testResult : TestResult
  noticesLost : Bool
  deriving DecidableEq, Repr

/-- The data of a reply, after its outcome (R185 and the rule of each request). -/
inductive ReplyData
  | nothing
  | modeEntered (mode : Mode)
  | fieldNumber (n : Nat)
  | check (number : Nat) (slot : Option Nat)
  | resetRecord (cause : ResetCause) (supplyFlag : Bool)
  | committed (version digest : BitVec 32) (segments stations markers : Nat) (kept : Bool)
  | profileInfo (valid : Bool) (lineLength : BitVec 24) (version : BitVec 32)
      (digest : Option (BitVec 32)) (segments stations markers : Nat)
  | segment (record : Segment) (extentEnd : Nat) (limits : Option (Nat × Nat))
  | part (number parts : Nat) (bytes : List Byte)
  | seqNumber (seq : Byte)
  | count (n : Nat)
  | status (v : StatusView)
  deriving DecidableEq, Repr

/-- A reply (R185): its tag, OK (`none`) or a reason, its data, and whether it answers the RESTART
that was accepted (R14). -/
structure Reply where
  tag : Byte
  reason : Option Reason
  data : ReplyData
  ofRestart : Bool
  deriving DecidableEq, Repr

/-- A frame the part sends (R186). -/
inductive Frame
  | reply (r : Reply)
  | notice (n : Notice)
  deriving DecidableEq, Repr

/-- What the Car Link Port keeps (table of chapter 11). -/
structure Clp where
  rx : Option (List Byte × Nat)
  replies : List Reply
  notices : List Notice
  lost : Bool
  snapshot : Option Contents
  silence : Option Timer
  tx : Option Frame
  restarting : Bool
  deriving DecidableEq, Repr

/-! ### The device -/

/-- Everything the NK-460 keeps, block by block, with the clock and the input lines. -/
structure Device where
  now : Nat
  startAt : Nat
  pins : Pins
  mdc : Mdc
  prs : Prs
  odu : Odu
  ssv : Ssv
  bdt : Bdt
  bau : Bau
  dcu : Dcu
  dbm : Dbm
  vru : Vru
  aru : Aru
  clp : Clp
  deriving DecidableEq, Repr

end Sys2Proof.Machine
end

