-- ==== Sys2Proof/Config.lean ====
section
/-! DEFINITION. What the part fixes, and the values the manual leaves open.

The constants are the figures of the manual. The `opaque` values have no body: nothing can be proved
of what they are, so a claim holds whatever they are. -/

namespace Sys2Proof.Config

/-- A_min, 300 mm/s² ("Four values are fixed in the part", before R11). -/
def aMin : Nat := 300

/-- The calibration window of 64 rack teeth. -/
def calibrationWindow : Nat := 64

/-- The mesh window of 32 rack teeth. -/
def meshWindow : Nat := 32

/-- The mesh sync of 8 teeth. -/
def meshSync : Nat := 8

/-- The missing-rack run that faults a bogie, 2,000 mm (R51). -/
def missingRackLimit : Nat := 2000

/-- The margin of "deep in rack", 1,000 mm (R51). -/
def deepMargin : Nat := 1000

/-- The quiet samples that set the standstill indication (R55). -/
def quietSamples : Nat := 20

/-- Speeds saturate here (R54, Conventions). -/
def maxSpeed : Nat := 15000

/-- U saturates here (R42). -/
def maxUncertainty : Nat := 16777215

/-- The logon timer, 5 s (R154). -/
def logonSeconds : Nat := 5

/-- The wait bound of a transaction, 20 ms (R145). -/
def waitBoundMicros : Nat := 20000

/-- A repeat poll is sent 2 ms after a WAIT answer (R145). -/
def repeatDelayMicros : Nat := 2000

/-- The most that the electric brake demand drives (R106). -/
def maxEdbDemand : Nat := 5000

/-- The battery thresholds in tenths of a volt (R120). -/
def cutoffBelow : Nat := 165
def cutoffEnds : Nat := 180
def lowBelow : Nat := 210
def normalFrom : Nat := 220

/-- Milliseconds and seconds on the clock. -/
def ms (n : Nat) : Nat := n * 1000
def sec (n : Nat) : Nat := n * 1000000

/-- FREE VALUE (log 7). The byte form of the contents of a long query: R187 says how the contents
are cut into parts and no rule says how they are laid out. -/
opaque queryBytes : Machine.Contents → List Byte

/-- FREE VALUE (log 8). The three bytes in which a telegram carries a front that lies below
chainage 0 or above 16,777,215: the layouts give a chainage three bytes and do not say. -/
opaque offRangeChainage : Int → BitVec 24

/-- FREE VALUE (log 9). The largest downhill amount over the car span while there is no direction of
travel: R72 forms it for the direction of travel alone. It is a function of the gradients under the
span. -/
opaque gdWithoutDirection : List Int → Nat

/-- FREE VALUE (log 6). The bytes of a reply's data that no rule lays out. -/
opaque replyBytes : Machine.ReplyData → List Byte

/-- FREE VALUE (log 6). The bytes of a notice behind its number: no rule lays them out. -/
opaque noticeBytes : Machine.Notice → List Byte

/-! FREE VALUES (log 34). The payloads of the requests whose layout 11_car_link.md does not give: the
length of a kind's payload, and what a payload of the kind spells in a field, the fields numbered from 1
in the order in which the request's rule names them. A name is absent where its code names none. -/

opaque requestLength (kind : Nat) : Nat
opaque numberIn (kind : Nat) (payload : List Byte) (field : Nat) : Nat
opaque dirIn (kind : Nat) (payload : List Byte) (field : Nat) : Option Dir
opaque selectedIn (kind : Nat) (payload : List Byte) (field : Nat) : Option (Option Dir)
opaque sideIn (kind : Nat) (payload : List Byte) (field : Nat) : Option Side
opaque sidesIn (kind : Nat) (payload : List Byte) (field : Nat) : Option SideSel
opaque levelIn (kind : Nat) (payload : List Byte) (field : Nat) : Option Level
opaque latchIn (kind : Nat) (payload : List Byte) (field : Nat) : Option LatchMode
opaque appliesIn (kind : Nat) (payload : List Byte) (field : Nat) : Option AppliesTo

end Sys2Proof.Config
end

