-- ==== Sys2Proof/Machine/Bytes.lean ====
section
/-! DEFINITION. Bytes: the three CRCs, numbers as bytes, and the layouts of 11_car_link.md
("Frame and record layouts"): profile records, radio telegrams, poll and answer frames, and the
assembly of frames and telegrams from bytes. -/

namespace Sys2Proof.Machine

/-! ### CRCs: most significant bit first, no final inversion -/

/-- `n` single-bit steps of a CRC. -/
def crcShift {w : Nat} (poly : BitVec w) : Nat → BitVec w → BitVec w
  | 0, c => c
  | n + 1, c => crcShift poly n (if c.msb then (c <<< 1) ^^^ poly else c <<< 1)

/-- One byte into a CRC, its most significant bit first. -/
def crcByte {w : Nat} (poly crc : BitVec w) (b : Byte) : BitVec w :=
  crcShift poly 8 (crc ^^^ (b.setWidth w <<< (w - 8)))

/-- The CRC-8 of the door bus (R143). -/
def crc8 (bytes : List Byte) : BitVec 8 := bytes.foldl (crcByte 0x07#8) 0x00#8

/-- The CRC-16 of the car link and the radio port (R157, R183). -/
def crc16 (bytes : List Byte) : BitVec 16 := bytes.foldl (crcByte 0x1021#16) 0xFFFF#16

/-- The CRC-32 of the profile digest (R32). -/
def crc32 (bytes : List Byte) : BitVec 32 := bytes.foldl (crcByte 0x04C11DB7#32) 0xFFFFFFFF#32

/-! ### Numbers as bytes, most significant first -/

def bytes16 (x : BitVec 16) : List Byte := [x.extractLsb' 8 8, x.extractLsb' 0 8]

def bytes24 (x : BitVec 24) : List Byte :=
  [x.extractLsb' 16 8, x.extractLsb' 8 8, x.extractLsb' 0 8]

def bytes32 (x : BitVec 32) : List Byte :=
  [x.extractLsb' 24 8, x.extractLsb' 16 8, x.extractLsb' 8 8, x.extractLsb' 0 8]

/-- The number that bytes spell, most significant first. -/
def natOfBytes (bytes : List Byte) : Nat := bytes.foldl (fun n b => n * 256 + b.toNat) 0

def boolByte (b : Bool) : Byte := if b then 1#8 else 0#8

/-- A chainage or a front in three bytes; off their range it is a free value (log 8). -/
def chainageBytes (c : Int) : List Byte :=
  if 0 ≤ c ∧ c ≤ 16777215 then bytes24 (BitVec.ofNat 24 c.toNat)
  else bytes24 (Config.offRangeChainage c)

/-! ### Profile records (R24, R25, R32) -/

def kindOfByte (b : Byte) : Option Kind :=
  if b = 1#8 then some .rack else if b = 2#8 then some .rackEntry
  else if b = 3#8 then some .adhesion else none

def kindByte : Kind → Byte
  | .rack => 1#8 | .rackEntry => 2#8 | .adhesion => 3#8

def trackSideOfByte (b : Byte) : Option TrackSide :=
  if b = 1#8 then some .leftOfUp else if b = 2#8 then some .rightOfUp
  else if b = 3#8 then some .both else none

def trackSideByte : TrackSide → Byte
  | .leftOfUp => 1#8 | .rightOfUp => 2#8 | .both => 3#8

/-- The flags byte: bit 0 RADIO_SHADOW, bit 1 NO_STOP. -/
def flagsByte (shadow noStop : Bool) : Byte := (boolByte noStop <<< 1) ||| boolByte shadow

def segmentBytes (g : Segment) : List Byte :=
  bytes24 g.start ++ [kindByte g.kind] ++ bytes16 g.gradient ++ bytes16 g.limitUp
    ++ bytes16 g.limitDown ++ [flagsByte g.radioShadow g.noStop]

def stationBytes (t : Station) : List Byte :=
  [t.identity] ++ bytes24 t.platformStart ++ bytes24 t.platformEnd ++ [trackSideByte t.trackSide]

def markerBytes (m : MarkerRec) : List Byte :=
  bytes16 m.identity ++ bytes24 m.chainage ++ bytes16 m.accuracy

/-- The digest of a map (R32): the line length, then the records in index order; not the version. -/
def digestOf (lineLength : BitVec 24) (segments : List Segment) (stations : List Station)
    (markers : List MarkerRec) : BitVec 32 :=
  crc32 (bytes24 lineLength ++ segments.flatMap segmentBytes ++ stations.flatMap stationBytes
    ++ markers.flatMap markerBytes)

/-! ### Assembly of frames and telegrams (R157, R183) -/

/-- What the assembly of a frame needs to know of its layout. -/
structure FrameShape where
  start : Byte
  lengthAt : Nat
  overhead : Nat
  maxLength : Nat

/-- A car link frame: A5h, length, kind, tag, payload, CRC-16. -/
def carFrame : FrameShape := ⟨0xA5#8, 1, 6, 60⟩

/-- A radio telegram: 5Ah, identity, kind, number, length, payload, CRC-16. -/
def radioTelegram : FrameShape := ⟨0x5A#8, 4, 7, 40⟩

/-- The complete frames in `bytes`, in order, and the bytes of a frame still being assembled at the
end (empty for none). Bytes between frames that are not the start byte are discarded. A length above
the most allowed ends the assembly at once, and the search for a start byte goes on behind it. -/
def assemble (shape : FrameShape) : Nat → List Byte → List (List Byte) × List Byte
  | 0, _ => ([], [])
  | fuel + 1, bytes =>
    let bs := bytes.dropWhile (fun b => b != shape.start)
    match bs[shape.lengthAt]? with
    | none => ([], bs)
    | some len =>
      if len.toNat > shape.maxLength then assemble shape fuel (bs.drop (shape.lengthAt + 1))
      else if bs.length < shape.overhead + len.toNat then ([], bs)
      else
        let r := assemble shape fuel (bs.drop (shape.overhead + len.toNat))
        (bs.take (shape.overhead + len.toNat) :: r.1, r.2)

/-- Whether the CRC-16 over byte 1 to the end of the payload equals the last two bytes. -/
def crc16Fits (frame : List Byte) : Bool :=
  bytes16 (crc16 ((frame.drop 1).dropLast.dropLast)) == frame.drop (frame.length - 2)

/-- A telegram as it goes on the line, with its CRC. -/
def telegramBytes (identity kind seq : Byte) (payload : List Byte) : List Byte :=
  let body := [identity, kind, seq, BitVec.ofNat 8 payload.length] ++ payload
  0x5A#8 :: body ++ bytes16 (crc16 body)

/-- The kind byte and the fields of a complete telegram. -/
def telegramOf (frame : List Byte) : Byte × Telegram :=
  (frame.getD 2 0#8, ⟨frame.getD 1 0#8, frame.getD 3 0#8, (frame.drop 5).dropLast.dropLast⟩)

/-! ### Uplink codes (11_car_link.md) -/

def modeByte : Mode → Byte
  | .preparation => 1#8 | .service => 2#8 | .degraded => 3#8 | .stabled => 4#8 | .waking => 5#8

def levelByte : Level → Byte
  | .none => 0#8 | .notify => 1#8 | .cut => 2#8 | .service => 3#8 | .full => 4#8
  | .emergency => 5#8

def entryStateByte : EntryState → Byte
  | .idle => 0#8 | .active => 1#8 | .held => 2#8 | .deferred => 3#8

def dirByte : Option Dir → Byte
  | none => 0#8 | some .up => 1#8 | some .down => 2#8

def dirOfByte (b : Byte) : Option Dir :=
  if b = 1#8 then some .up else if b = 2#8 then some .down else none

def uplinkKindByte : UplinkKind → Byte
  | .positionReport => 0x20#8 | .eventReport => 0x21#8 | .authorityRequest => 0x22#8
  | .logon => 0x23#8

/-- The kind byte of an ACK. -/
def ackKindByte : Byte := 0x24#8

def resultByte : Result → Byte
  | .applied => 0#8 | .staged => 1#8 | .interim => 2#8 | .full => 3#8 | .wrongDirection => 4#8
  | .behindCar => 5#8 | .noPosition => 6#8 | .stopPossible => 7#8 | .stopNotPossible => 8#8
  | .invalid => 9#8 | .badTelegram => 0x0A#8

/-! ### Door bus frames (R143, R144) -/

def unitByte : DoorNo → Byte
  | .d1 => 1#8 | .d2 => 2#8 | .d3 => 3#8 | .d4 => 4#8

def orderByte : Order → Byte
  | .lock => 1#8 | .release => 2#8 | .close => 3#8 | .reopen => 4#8

/-- A poll (R143). -/
def pollBytes (unit : DoorNo) (order : Order) (repeatNo : Nat) (standstill : Bool) : List Byte :=
  let body := [unitByte unit, orderByte order, BitVec.ofNat 8 repeatNo, boolByte standstill]
  body ++ [crc8 body]

def leafOfByte (b : Byte) : Option Leaf :=
  if b = 1#8 then some .closed else if b = 2#8 then some .opening
  else if b = 3#8 then some .open else if b = 4#8 then some .closing else none

/-- Bits 0 and 1 of the state byte: 01 LOCKED, 10 UNLOCKED, else no lock that a report can carry. -/
def lockedOfByte (b : Byte) : Option Bool :=
  if b.getLsbD 0 && !b.getLsbD 1 then some true
  else if !b.getLsbD 0 && b.getLsbD 1 then some false else none

/-- The report in an answer, if its leaf and lock are values that a report can carry (R144). -/
def reportOf (a : AnswerBytes) : Option Report :=
  match leafOfByte a.leaf, lockedOfByte a.stateByte with
  | some leaf, some locked =>
    some ⟨leaf, locked, a.stateByte.getLsbD 2, a.stateByte.getLsbD 3, a.stateByte.getLsbD 4,
      a.faultCode⟩
  | _, _ => none

/-- How an answer is judged (R144). -/
inductive Answer
  | report (r : Report)
  | wait
  | bad
  deriving DecidableEq, Repr

/-- The judgement of an answer with a right CRC and the report code REPORT. -/
def judgeReport (unit : DoorNo) (a : AnswerBytes) : Answer :=
  if a.address = unitByte unit then
    match reportOf a with
    | some r => .report r
    | none => .bad
  else .bad

/-- The judgement of an answer with a right CRC and the report code WAIT. -/
def judgeWait (unit : DoorNo) (a : AnswerBytes) : Answer :=
  if a.address = unitByte unit then .wait else .bad

/-- The judgement of the six bytes of an answer (R144). -/
def judgeAnswer (unit : DoorNo) (bytes : List Byte) : Answer :=
  match bytes with
  | [addr, code, leaf, st, fault, crc] =>
    if crc8 [addr, code, leaf, st, fault] = crc then
      if code = 1#8 then judgeReport unit ⟨addr, leaf, st, fault⟩
      else if code = 2#8 then judgeWait unit ⟨addr, leaf, st, fault⟩
      else .bad
    else .bad
  | _ => .bad

end Sys2Proof.Machine
end

