-- ==== Sys2Proof/Machine/Tables.lean ====
section
/-! DEFINITION. The fixed tables of the manual: the levels in order, the sources with their numbers,
defaults, floors and latch modes (R84), the field ranges of the configuration record (R11), and
small access functions for doors, bogies and channels. -/

namespace Sys2Proof.Machine

/-! ### Access by name -/

def Pair.get {α : Type} (p : Pair α) : Bogie → α
  | .a => p.a
  | .b => p.b

def Pair.set {α : Type} (p : Pair α) (which : Bogie) (x : α) : Pair α :=
  match which with
  | .a => { p with a := x }
  | .b => { p with b := x }

def Pair.ofChannel {α : Type} (p : Pair α) : Channel → α
  | .a => p.a
  | .b => p.b

def Pair.setChannel {α : Type} (p : Pair α) (c : Channel) (x : α) : Pair α :=
  match c with
  | .a => { p with a := x }
  | .b => { p with b := x }

def Quad.get {α : Type} (q : Quad α) : DoorNo → α
  | .d1 => q.d1
  | .d2 => q.d2
  | .d3 => q.d3
  | .d4 => q.d4

def Quad.set {α : Type} (q : Quad α) (n : DoorNo) (x : α) : Quad α :=
  match n with
  | .d1 => { q with d1 := x }
  | .d2 => { q with d2 := x }
  | .d3 => { q with d3 := x }
  | .d4 => { q with d4 := x }

def Quad.all {α : Type} (q : Quad α) (f : α → Bool) : Bool :=
  f q.d1 && f q.d2 && f q.d3 && f q.d4

def Quad.any {α : Type} (q : Quad α) (f : α → Bool) : Bool :=
  f q.d1 || f q.d2 || f q.d3 || f q.d4

def Quad.map {α β : Type} (q : Quad α) (f : α → β) : Quad β :=
  ⟨f q.d1, f q.d2, f q.d3, f q.d4⟩

/-- The four doors in number order. -/
def allDoors : List DoorNo := [.d1, .d2, .d3, .d4]

/-- The door that a request's number names (R136). -/
def doorOfNat : Nat → Option DoorNo
  | 1 => some .d1
  | 2 => some .d2
  | 3 => some .d3
  | 4 => some .d4
  | _ => none

end Sys2Proof.Machine

namespace Sys2Proof

/-- After unit n comes unit n + 1, and after unit 4 comes unit 1 (R142). -/
def DoorNo.next : DoorNo → DoorNo
  | .d1 => .d2
  | .d2 => .d3
  | .d3 => .d4
  | .d4 => .d1

end Sys2Proof

namespace Sys2Proof.Machine

def Phase.number : Phase → Nat
  | .aOnly => 1
  | .settle1 => 2
  | .bOnly => 3
  | .settle2 => 4

def phaseOfNat : Nat → Option Phase
  | 1 => some .aOnly
  | 2 => some .settle1
  | 3 => some .bOnly
  | 4 => some .settle2
  | _ => none

end Sys2Proof.Machine

namespace Sys2Proof

def Dir.opposite : Dir → Dir
  | .up => .down
  | .down => .up

end Sys2Proof

namespace Sys2Proof.Machine

/-! ### Levels (R84) -/

end Sys2Proof.Machine

namespace Sys2Proof

def Level.rank : Level → Nat
  | .none => 0
  | .notify => 1
  | .cut => 2
  | .service => 3
  | .full => 4
  | .emergency => 5

def Level.max (a b : Level) : Level := if a.rank < b.rank then b else a

/-- A level as it counts in the applied level: NOTIFY counts as NONE (R92). -/
def Level.counted : Level → Level
  | .notify => .none
  | l => l

end Sys2Proof

namespace Sys2Proof.Machine

/-! ### Sources (R84) -/

/-- The sources in number order. -/
def allSources : List Source :=
  [.plunger, .overspeedEb, .mesh, .rollaway, .authority, .brakeFault, .valleyStop, .doorMoving,
   .rackEntry, .brakeTest, .mode, .overspeedSb, .position, .radioLoss, .restrictionFull,
   .passengerAlarm, .doorHold, .linkSilent, .linkRequest, .driverHandle, .supplyLow]

def Source.number : Source → Nat
  | .plunger => 1 | .overspeedEb => 2 | .mesh => 3 | .rollaway => 4 | .authority => 5
  | .brakeFault => 6 | .valleyStop => 7 | .doorMoving => 8 | .rackEntry => 9 | .brakeTest => 10
  | .mode => 11 | .overspeedSb => 12 | .position => 13 | .radioLoss => 14
  | .restrictionFull => 15 | .passengerAlarm => 16 | .doorHold => 17 | .linkSilent => 18
  | .linkRequest => 19 | .driverHandle => 20 | .supplyLow => 21

/-- The source with a number, 1 to 21. -/
def sourceOfNat (n : Nat) : Option Source := allSources.find? (fun s => s.number == n)

/-- Sources 11, 19 and 20 carry their level with each raise (R84). -/
def Source.carriesLevel : Source → Bool
  | .mode | .linkRequest | .driverHandle => true
  | _ => false

/-- The default level of a configured-level source. A carried-level source has no row level; the
field is NONE there and nothing reads it. -/
def Source.defaultLevel : Source → Level
  | .plunger | .overspeedEb | .mesh | .rollaway | .authority | .brakeFault => .emergency
  | .valleyStop | .doorMoving | .rackEntry | .brakeTest => .full
  | .overspeedSb | .position | .radioLoss | .restrictionFull | .passengerAlarm | .doorHold
  | .linkSilent => .service
  | .supplyLow => .notify
  | .mode | .linkRequest | .driverHandle => .none

def Source.floor : Source → Level
  | .plunger | .overspeedEb | .brakeFault => .emergency
  | .mesh | .rollaway | .authority | .brakeTest => .full
  | .valleyStop | .doorMoving | .rackEntry | .overspeedSb | .restrictionFull | .doorHold => .service
  | .radioLoss | .linkSilent => .cut
  | .position | .passengerAlarm | .supplyLow => .notify
  | .mode | .linkRequest | .driverHandle => .none

def Source.defaultMode : Source → LatchMode
  | .plunger | .overspeedEb | .mesh | .rollaway | .authority | .brakeFault | .valleyStop =>
    .latchStandstill
  | .doorMoving | .rackEntry | .brakeTest | .position | .radioLoss | .restrictionFull
  | .passengerAlarm => .latch
  | .mode | .overspeedSb | .doorHold | .linkSilent | .linkRequest | .driverHandle | .supplyLow =>
    .flow

def Source.allows : Source → LatchMode → Bool
  | .plunger, m | .overspeedEb, m | .mesh, m | .rollaway, m | .authority, m | .brakeFault, m =>
    m == .latchStandstill
  | .valleyStop, m => m == .latchStandstill || m == .flow
  | .doorMoving, m => m == .latch || m == .latchStandstill
  | .rackEntry, m | .position, m | .radioLoss, m => m == .latch || m == .flow
  | .brakeTest, m | .restrictionFull, m | .passengerAlarm, m => m == .latch
  | .mode, m | .overspeedSb, m | .doorHold, m | .linkRequest, m | .driverHandle, m => m == .flow
  | .linkSilent, m | .supplyLow, m => m == .flow || m == .latch

/-- The sources whose entry may carry a requested deceleration (R88). -/
def Source.carriesDecel : Source → Bool
  | .driverHandle | .linkRequest | .overspeedSb => true
  | _ => false

/-! ### The ranges of the car configuration record (table before R11) -/

/-- Whether `n` lies in [lo, hi]. -/
def inRange (lo hi n : Nat) : Bool := decide (lo ≤ n) && decide (n ≤ hi)

/-- The fields of a record in record order, each with whether it lies in its range. A range in terms
of another field is judged at the later of the two, against the record's own earlier field. -/
def configChecks (c : CarConfig) : List (Nat × Bool) :=
  [(1, inRange 1 250 c.carIdentity),
   (2, inRange 5000 40000 c.length),
   (3, inRange 0 c.length c.bogieA),
   (4, inRange 0 c.length c.bogieB),
   (5, inRange 0 c.length c.reader),
   (6, c.side1.isSome), (7, c.side2.isSome), (8, c.side3.isSome), (9, c.side4.isSome),
   (10, inRange 50 200 c.rackPitch),
   (11, inRange 60 240 c.pulsesPerRev),
   (12, inRange 20000 35000 c.circInitial),
   (13, inRange 20000 c.circInitial c.circMin),
   (14, inRange c.circInitial 35000 c.circMax),
   (15, inRange 1 20 c.calStep),
   (16, inRange 0 254 c.calMin),
   (17, inRange (c.calMin + 1) 255 c.calMax),
   (18, inRange 0 10 c.calDeadBand),
   (19, inRange 1 20 c.wheelGrowth)] ++
  [(20, inRange 1000 6000 c.aSb),
   (21, inRange c.aSb 6000 c.aEb),
   (22, inRange 200 4000 c.tSb),
   (23, inRange 200 4000 c.tEb),
   (24, inRange 100 2000 c.sbMargin),
   (25, inRange 100 2000 c.ebMargin),
   (26, inRange 500 2000 c.blendSpeed),
   (27, inRange 200 5000 c.feedbackTime),
   (28, inRange 1000 15000 c.maxRack),
   (29, inRange 1000 15000 c.maxAdhesion),
   (30, inRange 300 3000 c.rackEntryLimit),
   (31, inRange 1000 5000 c.degradedCeiling),
   (32, inRange 50000 2000000 c.lookAhead),
   (33, inRange 1000 20000 c.uMax),
   (34, inRange 100 2000 c.rollAway)] ++
  [(35, inRange 1 4 c.meshTolerance),
   (36, inRange 2 30 c.silenceTime),
   (37, inRange 10 180 c.shadowSilence),
   (38, inRange 1 30 c.reportInterval),
   (39, inRange 1 10 c.ackTimeout),
   (40, inRange 1 5 c.doorAttempts),
   (41, inRange 1 10 c.reopenDwell),
   (42, inRange 3 30 c.testHold),
   (43, inRange 1 10 c.testSettle),
   (44, inRange 1 4 c.testCycles),
   (45, inRange 10 200 c.creepTolerance),
   (46, inRange 2 60 c.wakeInterval),
   (47, c.linkSilence == 0 || inRange 500 10000 c.linkSilence)]

/-- The number of the first field out of its range, if any (R11, check 4). -/
def firstBadField (c : CarConfig) : Option Nat :=
  ((configChecks c).find? (fun f => !f.2)).map (·.1)

end Sys2Proof.Machine

namespace Sys2Proof

/-- The car side of a door's unit (R124). -/
def CarConfig.sideOf (c : CarConfig) : DoorNo → Option Side
  | .d1 => c.side1
  | .d2 => c.side2
  | .d3 => c.side3
  | .d4 => c.side4

/-- The offset of a bogie from end 1. -/
def CarConfig.bogieOffset (c : CarConfig) : Bogie → Nat
  | .a => c.bogieA
  | .b => c.bogieB

end Sys2Proof
end

