-- ==== Sys2Proof/Machine/Frames.lean ====
section
/-! DEFINITION. The frames that the part sends on the car link: the reason codes (R185), the notice
numbers (R189) and the bytes of a reply or a notice (11_car_link.md, "Car link frame"). -/

namespace Sys2Proof.Machine

/-- The code of a reason (table of R185). -/
def Reason.code : Reason → Byte
  | .unknownKind => 0x01#8 | .badLength => 0x02#8 | .range => 0x03#8 | .wrongMode => 0x04#8
  | .notStandstill => 0x05#8 | .busy => 0x06#8 | .notConfigured => 0x07#8 | .noProfile => 0x08#8
  | .checkFailed => 0x09#8 | .conditionPresent => 0x0A#8 | .notHeld => 0x0B#8
  | .notAllowed => 0x0C#8 | .full => 0x0D#8 | .notFound => 0x0E#8 | .platform => 0x0F#8
  | .brakesNotApplied => 0x10#8 | .orientationUnset => 0x11#8 | .testNotPassed => 0x12#8
  | .positionUnknown => 0x13#8

/-- The outcome byte: 00h for OK, or the reason code. -/
def outcomeByte : Option Reason → Byte
  | none => 0x00#8
  | some r => r.code

/-- The number of a notice (table of R189). -/
def Notice.number : Notice → Byte
  | .started _ _ => 1#8
  | .mode _ _ _ => 2#8
  | .brakeLevel _ _ _ => 3#8
  | .demand _ _ _ _ _ => 4#8
  | .supervisionStatus _ _ _ _ _ _ => 5#8
  | .door _ _ _ _ => 6#8
  | .radioLink _ _ => 7#8
  | .restrictionsPending _ => 8#8
  | .testResult _ => 9#8
  | .supply _ _ => 10#8
  | .handleFault _ _ => 11#8
  | .markerUnknown _ => 12#8
  | .calibrationLimit _ _ => 13#8
  | .outboxFull _ => 14#8
  | .reportUndelivered _ _ => 15#8

/-- The slot index of a failed check, FFh where it is absent (R185). -/
def slotByte : Option Nat → Byte
  | some i => BitVec.ofNat 8 i
  | none => 0xFF#8

/-- What still fits into a payload behind its first byte. -/
def payloadRest : Nat := 59

/-- The data of a reply behind its outcome. The field number, the check with its slot and the parts of a
long query are laid out by R185 and R187; the rest is a free value (log 6). -/
def ReplyData.bytes : ReplyData → List Byte
  | .nothing => []
  | .fieldNumber n => [BitVec.ofNat 8 n]
  | .check number slot => [BitVec.ofNat 8 number, slotByte slot]
  | .part number parts bytes => [BitVec.ofNat 8 number, BitVec.ofNat 8 parts] ++ bytes
  | data => (Config.replyBytes data).take payloadRest

/-- The content of a notice behind its number: a free value (log 6). -/
def Notice.bytes (n : Notice) : List Byte := (Config.noticeBytes n).take payloadRest

/-- A frame of the car link with its CRC. -/
def carFrameBytes (kind tag : Byte) (payload : List Byte) : List Byte :=
  let body := [BitVec.ofNat 8 payload.length, kind, tag] ++ payload
  0xA5#8 :: body ++ bytes16 (crc16 body)

/-- The kind bytes of a reply and of a notice. -/
def replyKind : Byte := 0x80#8
def noticeKind : Byte := 0xC0#8

/-- The bytes of a frame (R185, R189). -/
def Frame.bytes : Frame → List Byte
  | .reply r => carFrameBytes replyKind r.tag (outcomeByte r.reason :: r.data.bytes)
  | .notice n => carFrameBytes noticeKind 0x00#8 (n.number :: n.bytes)

/-- The bytes on the car link while the transmitter sends (R186). -/
def sentBytes (d : Device) : List Byte :=
  match d.clp.tx with
  | some f => f.bytes
  | none => []

end Sys2Proof.Machine
end

