-- ==== Sys2Proof/Machine/Lookup.lean ====
section
/-! DEFINITION. What the other blocks read from the map and from the position record: the four
lookups of the Profile Store (R18, R21), the car on the line (R37, R41, R42, R65) and the arithmetic
of the manual's formulas (R72 to R74). -/

namespace Sys2Proof.Machine

/-! ### Arithmetic -/

/-- `a / b`, rounded up. -/
def ceilDiv (a b : Nat) : Nat := (a + b - 1) / b

/-- The digits of the square root of `n`, `k` bits below the root found so far. -/
def isqrtBits : Nat → Nat → Nat → Nat
  | 0, _, r => r
  | k + 1, n, r =>
    if (r + 2 ^ k) * (r + 2 ^ k) ≤ n then isqrtBits k n (r + 2 ^ k) else isqrtBits k n r

/-- The square root, rounded down. -/
def isqrt (n : Nat) : Nat := isqrtBits (n.log2 / 2 + 1) n 0

/-- The gravity pull G of a downhill amount, in mm/s², rounded up (R29, R72). -/
def gravityPull (gd : Nat) : Nat := ceilDiv (gd * 981) 100

/-- An effective deceleration: a capacity less G, raised to A_min (R73). -/
def effectiveDecel (capacity g : Nat) : Nat := max (capacity - g) Config.aMin

/-- The reaction distance d_r (R74). -/
def reactionDistance (v t : Nat) : Nat := ceilDiv (v * t) 1000

/-- The curve speed for a target at distance `d0` with target speed `vt` (R74). -/
def curveSpeed (v t a d0 vt : Nat) : Nat :=
  if d0 ≤ reactionDistance v t then vt
  else min Config.maxSpeed (isqrt (vt * vt + 2 * a * (d0 - reactionDistance v t)))

/-- The service stopping distance d_r + v² / (2 × a_s), rounded up as a whole (R173). -/
def stoppingDistance (v t a : Nat) : Nat := ceilDiv (v * t * (2 * a) + v * v * 1000) (2000 * a)

/-! ### The segment table (R17, R18, R21) -/

/-- A segment with its extent, the chainages from `lo` to `hi`. -/
structure Extent where
  seg : Segment
  lo : Nat
  hi : Nat
  deriving DecidableEq, Repr

/-- The extents of a segment table (R17). -/
def extentsOf (lineLength : Nat) : List Segment → List Extent
  | [] => []
  | [g] => [⟨g, g.start.toNat, lineLength⟩]
  | g :: h :: t => ⟨g, g.start.toNat, h.start.toNat - 1⟩ :: extentsOf lineLength (h :: t)

def Profile.extents (p : Profile) : List Extent := extentsOf p.lineLength.toNat p.segments

/-- Segment at a chainage; `none` is off the line, or an empty profile (R21). -/
def Profile.segmentAt (p : Profile) (c : Int) : Option Segment :=
  if 0 ≤ c ∧ c ≤ (p.lineLength.toNat : Int) then
    (p.extents.find? (fun x => decide ((x.lo : Int) ≤ c) && decide (c ≤ (x.hi : Int)))).map (·.seg)
  else none

/-- Segments over a range, in ascending order (R21). -/
def Profile.segmentsOver (p : Profile) (lo hi : Int) : List Segment :=
  (p.extents.filter (fun x => decide ((x.lo : Int) ≤ hi) && decide (lo ≤ (x.hi : Int)))).map (·.seg)

/-- The mark that a range reaches past the line end (R21). -/
def Profile.pastLineEnd (p : Profile) (lo hi : Int) : Bool :=
  decide (lo < 0) || decide (hi > (p.lineLength.toNat : Int))

/-- Platform containing a range (R21). -/
def Profile.platformOver (p : Profile) (lo hi : Int) : Option Station :=
  p.stations.find? (fun t => decide ((t.platformStart.toNat : Int) ≤ lo)
    && decide (hi ≤ (t.platformEnd.toNat : Int)))

/-- Marker by identity (R21). -/
def Profile.marker (p : Profile) (identity : BitVec 16) : Option MarkerRec :=
  p.markers.find? (fun m => m.identity == identity)

/-- The line limit of a segment for a direction (R17). -/
def Segment.limit (g : Segment) : Dir → Nat
  | .up => g.limitUp.toNat
  | .down => g.limitDown.toNat

/-- The effective limit of a segment for a direction of travel (R18). -/
def effectiveLimit (c : CarConfig) (g : Segment) (dir : Dir) : Nat :=
  match g.kind with
  | .rack => min (g.limit dir) c.maxRack
  | .rackEntry => min (min (g.limit dir) c.maxRack) c.rackEntryLimit
  | .adhesion => min (g.limit dir) c.maxAdhesion

/-- The downhill amount of a segment for a direction of travel (Conventions; R72). -/
def Segment.downhill (g : Segment) : Dir → Nat
  | .up => (-g.gradient.toInt).toNat
  | .down => g.gradient.toInt.toNat

/-- The largest downhill amount over some segments. -/
def steepest (dir : Dir) (segments : List Segment) : Nat :=
  segments.foldl (fun m g => max m (g.downhill dir)) 0

/-! ### The car on the line -/

/-- U: the base plus the wheel run × wheel error growth / 1,000, rounded up, saturated (R42). -/
def uncertainty (d : Device) : Nat :=
  match d.mdc.config with
  | some c => min Config.maxUncertainty (d.odu.uBase + ceilDiv (d.odu.wheelRun * c.wheelGrowth) 1000)
  | none => min Config.maxUncertainty d.odu.uBase

/-- The chainage of a point at an offset from end 1 (R37). -/
def linePoint (c : CarConfig) (facing : Dir) (position offset : Nat) : Int :=
  match facing with
  | .up => (position : Int) - offset
  | .down => (position : Int) - c.length + offset

/-- The position that puts a point at an offset from end 1 on a chainage (R44, step 3). -/
def positionFor (c : CarConfig) (facing : Dir) (chainage offset : Nat) : Int :=
  match facing with
  | .up => (chainage : Int) + offset
  | .down => (chainage : Int) + c.length - offset

/-- A bogie's chainage and the kind under it, or `none` while it is unplaced (R37). -/
def bogiePlace (d : Device) (which : Bogie) : Option (Int × Kind) :=
  match d.odu.known, d.mdc.orientation, d.mdc.config with
  | true, some facing, some c =>
    let x := linePoint c facing d.odu.position (c.bogieOffset which)
    (d.prs.cur.segmentAt x).map (fun g => (x, g.kind))
  | _, _, _ => none

/-- The car span [position − L − U, position + U]; none while the position is unknown (R65). -/
def carSpan (d : Device) : Option (Int × Int) :=
  match d.odu.known, d.mdc.config with
  | true, some c =>
    some ((d.odu.position : Int) - c.length - uncertainty d, (d.odu.position : Int) + uncertainty d)
  | _, _ => none

/-- The direction of travel (R41). -/
def travelDir (d : Device) : Option Dir :=
  match d.odu.dir with
  | some x => some x
  | none => d.aru.selDir

/-- The end of a span in a direction (R65, R79). -/
def spanFront (span : Int × Int) : Dir → Int
  | .up => span.2
  | .down => span.1

/-- The end of the car span in a direction: the authority front for the authority's direction. -/
def frontIn (d : Device) (dir : Dir) : Option Int := (carSpan d).map (fun s => spanFront s dir)

/-- The front (R65). -/
def front (d : Device) : Option Int :=
  match travelDir d with
  | some dir => frontIn d dir
  | none => none

/-- The distance ahead of a chainage (R65); negative for a point that the front has passed. -/
def ahead (dir : Dir) (front point : Int) : Int :=
  match dir with
  | .up => point - front
  | .down => front - point

/-- Whether a placed bogie is deep in rack (R51). -/
def deepInRack (d : Device) (which : Bogie) : Bool :=
  match bogiePlace d which with
  | none => false
  | some (x, _) =>
    let lo := x - uncertainty d - Config.deepMargin
    let hi := x + uncertainty d + Config.deepMargin
    !d.prs.cur.pastLineEnd lo hi && (d.prs.cur.segmentsOver lo hi).all (fun g => g.kind == .rack)

/-- Whether the car span overlaps a NO_STOP segment (R101). -/
def overNoStop (d : Device) : Bool :=
  match carSpan d with
  | none => false
  | some (lo, hi) => (d.prs.cur.segmentsOver lo hi).any (·.noStop)

/-- Whether the front lies in a radio shadow (R155). -/
def frontInShadow (d : Device) : Bool :=
  match front d with
  | none => false
  | some f => match d.prs.cur.segmentAt f with
    | some g => g.radioShadow
    | none => false

/-- The silence limit in force, in seconds (R155); none without a configuration. -/
def silenceLimit (d : Device) : Option Nat :=
  d.mdc.config.map (fun c => if d.vru.shadow then c.shadowSilence else c.silenceTime)

/-- The direction on the line of a counted edge (R36). -/
def edgeDir (orientation : Option Dir) (sense : Sense) : Option Dir :=
  match orientation, sense with
  | some f, .towardsEnd1 => some f
  | some f, .towardsEnd2 => some f.opposite
  | none, _ => none

/-- The time elapsed since an instant. -/
def elapsed (d : Device) (since : Nat) : Nat := d.now - since

/-- The time left on a timer. -/
def timeLeft (d : Device) (t : Timer) : Nat := t.start + t.length - d.now

end Sys2Proof.Machine
end

