-- ==== Sys2Proof/Machine/Flags.lean ====
section
/-! DEFINITION. The flags and conditions that the blocks compute from their state: levels in force,
the applied level and what goes with it (R88, R92 to R94), the DEGRADED causes (R3, R47), secured
doors (R129), the law of release (R131, R133), roll-away (R56), and disagreement of a channel
(R111). -/

namespace Sys2Proof.Machine

/-! ### Brake Demand Table -/

/-- Whether an entry is in force. -/
def Entry.inForce (e : Entry) : Bool := e.state == .active || e.state == .held

/-- The level in force of an entry (R88). -/
def Entry.level (e : Entry) : Level :=
  match e.state with
  | .idle | .deferred => .none
  | .active | .held => if e.src.carriesLevel then e.carried else e.cfgLevel

/-- The requested deceleration as R88 shows it: only while the level in force is SERVICE. -/
def Entry.shownDecel (e : Entry) : Option Nat := if e.level = .service then e.decel else none

/-- The applied level (R92). -/
def appliedLevel (entries : List Entry) : Level :=
  entries.foldl (fun m e => m.max e.level.counted) .none

/-- The governing source: the first entry, in number order, at the applied level (R92). -/
def governingSource (entries : List Entry) : Option Source :=
  if appliedLevel entries = .none then none
  else (entries.find? (fun e => e.level == appliedLevel entries)).map (·.src)

/-- Whether an ACTIVE or HELD entry stands at EMERGENCY (R93). -/
def anyEmergency (entries : List Entry) : Bool := entries.any (fun e => e.level == .emergency)

/-- The emergency hold after an event (R94). -/
def holdAfter (entries : List Entry) (standstill before : Bool) : Bool :=
  anyEmergency entries || (before && !standstill)

/-- What an entry at SERVICE counts as requesting (R93). -/
def countedDecel (config : Option CarConfig) (e : Entry) : Nat :=
  if e.level = .service then
    match e.decel, config with
    | some x, _ => x
    | none, some c => c.aSb
    | none, none => 0
  else 0

/-- The service deceleration (R93). -/
def serviceDecel (config : Option CarConfig) (entries : List Entry) : Nat :=
  entries.foldl (fun m e => max m (countedDecel config e)) 0

/-- The entry of a source. -/
def Bdt.entry? (t : Bdt) (src : Source) : Option Entry := t.entries.find? (fun e => e.src == src)

/-- Whether a source's condition is present. -/
def Bdt.present (t : Bdt) (src : Source) : Bool :=
  t.entries.any (fun e => e.src == src && e.cond)

/-- The chainage that BDT records for a raise that carries none (R85). -/
def raisePlace (d : Device) : RaisePlace :=
  match front d with
  | some c => .at c
  | none => .unplaced

/-! ### Mode Control -/

/-- The supervised modes (R63). -/
def Mode.supervised : Mode → Bool
  | .service | .degraded | .waking => true
  | .preparation | .stabled => false

/-- SERVICE or DEGRADED. -/
def Mode.inService : Mode → Bool
  | .service | .degraded => true
  | _ => false

/-- The level of the MODE entry, NONE where the entry is IDLE (R2). -/
def modeLevel (m : Mdc) : Level :=
  match m.mode with
  | .service | .degraded => .none
  | .stabled | .waking => .full
  | .preparation => if m.config.isNone || m.startUpHold then .emergency else .full

/-- Whether the POSITION condition holds (R47). -/
def positionDoubtful (d : Device) : Bool :=
  !d.odu.known || d.odu.conflict || d.odu.clamp
    || (match d.mdc.config with
        | some c => decide (c.uMax < uncertainty d)
        | none => false)

/-! ### Odometry -/

/-- Whether a bogie is ENTERING. -/
def anyEntering (d : Device) : Bool :=
  d.odu.bogies.a.state == .entering || d.odu.bogies.b.state == .entering

/-- The choice of distance source (R38). -/
def chosenSource (bogies : Pair MeshRec) : Source3 :=
  if bogies.a.state = .meshed then .rack .a
  else if bogies.b.state = .meshed then .rack .b
  else .wheel

/-- Whether ROLLAWAY is to be raised (R56). -/
def rollawayDue (d : Device) : Bool :=
  match d.mdc.config with
  | none => false
  | some c =>
    decide (c.rollAway < d.odu.reverseAcc)
      || (decide (c.rollAway < d.odu.anyAcc)
          && (d.aru.auth.isNone || d.mdc.mode == .preparation || d.mdc.mode == .stabled
              || d.bau.run.isSome))

/-! ### Brake actuation -/

/-- A single-brake phase (table before R113). -/
def Phase.single : Phase → Bool
  | .aOnly | .bOnly => true
  | .settle1 | .settle2 => false

/-- Whether a channel disagrees with its command (R111). -/
def ChannelRec.disagrees (c : ChannelRec) : Bool :=
  match c.commanded with
  | .released => !c.released
  | _ => c.released

def Bau.anyFault (b : Bau) : Bool := b.channels.a.fault || b.channels.b.fault

/-- Whether both channels are applied (R105). -/
def Bau.bothApplied (b : Bau) : Bool := !b.channels.a.released && !b.channels.b.released

/-- Whether the blend latch is to be set (R108). -/
def blendSets (d : Device) : Bool :=
  d.bdt.applied == .service && !d.bdt.hold
    && ((match d.mdc.config with
         | some c => decide (d.odu.speed ≤ c.blendSpeed)
         | none => false)
        || !d.pins.edbAvail || d.odu.standstill)

/-! ### Doors -/

/-- Secured: LOCKED or ISOLATED (R129). -/
def DoorRec.secured (r : DoorRec) : Bool := r.state == .locked || r.state == .isolated

/-- Every door is secured. -/
def allSecured (d : Device) : Bool := d.dcu.doors.all DoorRec.secured

/-- A report that shows a fault (R127). -/
def Report.faulty (r : Report) : Bool := r.faultCode != 0#8 || (r.locked && r.leaf != .closed)

/-- A report that shows the lock UNLOCKED or the leaf other than CLOSED (R138). -/
def Report.notShut (r : Report) : Bool := !r.locked || r.leaf != .closed

/-- Whether the passenger alarm condition holds (R139). -/
def alarmPulled (d : Device) : Bool :=
  d.dcu.doors.any (fun r => r.state != .isolated
    && (match r.last with
        | some x => x.alarm
        | none => false))

/-- Whether the last report of some door in use shows it not shut (R138). -/
def someDoorNotShut (d : Device) : Bool :=
  d.dcu.doors.any (fun r => r.state != .isolated
    && (match r.last with
        | some x => x.notShut
        | none => false))

/-- The track side of a car side (R131, step 1). -/
def requestedTrackSide (facing : Dir) (side : Side) : TrackSide :=
  match facing, side with
  | .up, .left | .down, .right => .leftOfUp
  | .up, .right | .down, .left => .rightOfUp

/-- The car span lies within a platform that covers the side (R131). -/
def platformCovers (d : Device) (side : Side) : Bool :=
  match d.mdc.orientation, carSpan d with
  | some facing, some (lo, hi) =>
    match d.prs.cur.platformOver lo hi with
    | some t => t.trackSide == .both || t.trackSide == requestedTrackSide facing side
    | none => false
  | _, _ => false

/-- Whether a release for a side may stand: none of the events of R133 holds. -/
def releaseMayStand (d : Device) (side : Side) : Bool :=
  d.odu.standstill && d.bau.bothApplied && d.bau.run.isNone && d.mdc.mode.inService
    && platformCovers d side

/-- Whether a door belongs to a car side (R124). -/
def belongsTo (d : Device) (n : DoorNo) (side : Side) : Bool :=
  match d.mdc.config with
  | some c => c.sideOf n == some side
  | none => false

end Sys2Proof.Machine
end

