-- ==== Sys2Proof/Machine/Operands.lean ====
section
/-! DEFINITION. The operand forms of the commands: profile records as load requests carry them (R24,
R25), the payloads of downlink telegrams (11_car_link.md, "Radio telegram"), the brake handle (R97),
and the parts of a long query (R187). -/

namespace Sys2Proof.Machine

/-! ### Load requests -/

/-- The segment record of a load request, if its kind and flags are values a record can hold (R24,
checks 3 and 4). -/
def segmentOf (r : SegmentBytes) : Option Segment :=
  match kindOfByte r.kind with
  | some k =>
    if r.flags.toNat < 4 then
      some ⟨r.start, k, r.gradient, r.limitUp, r.limitDown, r.flags.getLsbD 0, r.flags.getLsbD 1⟩
    else none
  | none => none

/-- The station record of a load request (R25, checks 3 and 4). -/
def stationOf (r : StationBytes) : Option Station :=
  if r.identity = 0#8 then none
  else (trackSideOfByte r.trackSide).map
    (fun t => ⟨r.identity, r.platformStart, r.platformEnd, t⟩)

/-- Whether a marker record passes checks 3 and 4 of R25. -/
def markerAccepted (m : MarkerRec) : Bool :=
  m.identity != 0#16 && inRange 50 2000 m.accuracy.toNat

/-! ### Downlink telegrams -/

/-- The downlink kinds (11_car_link.md); `unknown` is any other code. -/
inductive DownKind
  | logonAccept | authorityGrant | authorityShorten | authorityWithdraw | restrictionSet
  | restrictionLift | stopOrder | stopRelease | uplinkAck | poll | unknown
  deriving DecidableEq, Repr

def downKindOf (b : Byte) : DownKind :=
  match b.toNat with
  | 1 => .logonAccept
  | 2 => .authorityGrant
  | 3 => .authorityShorten
  | 4 => .authorityWithdraw
  | 5 => .restrictionSet
  | 6 => .restrictionLift
  | 7 => .stopOrder
  | 8 => .stopRelease
  | 9 => .uplinkAck
  | 10 => .poll
  | _ => .unknown

/-- The kinds acted on in every link state (R158). -/
def DownKind.takenAlways : DownKind → Bool
  | .logonAccept | .stopOrder | .stopRelease => true
  | _ => false

/-- The payload length that a kind's layout gives. -/
def DownKind.length : DownKind → Option Nat
  | .logonAccept => some 1
  | .authorityGrant => some 8
  | .authorityShorten => some 3
  | .authorityWithdraw | .stopOrder | .stopRelease | .poll => some 0
  | .restrictionSet => some 11
  | .restrictionLift => some 2
  | .uplinkAck => some 3
  | .unknown => none

/-- The number in `n` payload bytes from byte `i`. -/
def field (payload : List Byte) (i n : Nat) : Nat := natOfBytes ((payload.drop i).take n)

/-- The fields of AUTHORITY_GRANT; an expiry of 0 s is absent. -/
structure Grant where
  identity : Nat
  dir : Option Dir
  stop : Nat
  expiry : Option Nat
  deriving DecidableEq, Repr

def grantOf (payload : List Byte) : Grant :=
  let e := field payload 6 2
  ⟨field payload 0 2, dirOfByte (payload.getD 2 0#8), field payload 3 3,
   if e = 0 then none else some e⟩

/-- The first check of R172. -/
def Grant.valid (g : Grant) : Bool :=
  g.identity != 0 && g.dir.isSome
    && (match g.expiry with
        | some e => inRange 10 3600 e
        | none => true)

/-- The applies-to of a telegram. -/
def appliesOfByte (b : Byte) : Option AppliesTo :=
  if b = 1#8 then some .up else if b = 2#8 then some .down
  else if b = 3#8 then some .both else none

/-- The restriction of a RESTRICTION_SET, or `none` where R175 answers INVALID. -/
def restrictionOf (payload : List Byte) : Option Restriction :=
  let identity := field payload 0 2
  let start := field payload 2 3
  let stop := field payload 5 3
  let limit := field payload 8 2
  match appliesOfByte (payload.getD 10 0#8) with
  | some a =>
    if inRange 1 32767 identity && decide (start ≤ stop) && inRange 1 15000 limit then
      some ⟨identity, start, stop, limit, a, true⟩
    else none
  | none => none

/-- The sequence numbers that an UPLINK_ACK acknowledges (R164): base + i for each set flag i. -/
def ackedNumbers (payload : List Byte) : List Byte :=
  let map := field payload 1 2
  ((List.range 16).filter (fun i => map.testBit i)).map
    (fun i => payload.getD 0 0#8 + BitVec.ofNat 8 i)

/-! ### The brake handle -/

/-- Whether a sample finds the handle faulty (R97). -/
def handleIsFaulty (handle : Nat) (fault : Bool) : Bool := fault || decide (1000 < handle)

/-- The level and deceleration that a handle sample asks for; NONE ends the condition (R97). -/
def handleDemand (config : Option CarConfig) (handle : Nat) (fault : Bool) : Level × Option Nat :=
  if handleIsFaulty handle fault || decide (950 ≤ handle) then (.full, none)
  else if handle < 50 then (.none, none)
  else match config with
    | some c => (.service, some ((handle - 50) * c.aSb / 900))
    | none => (.full, none)

/-! ### Parts of a long query (R187) -/

/-- Bytes cut into pieces of at most 57. -/
def pieces : Nat → List Byte → List (List Byte)
  | 0, _ => []
  | fuel + 1, bytes =>
    if bytes.length ≤ 57 then [bytes] else bytes.take 57 :: pieces fuel (bytes.drop 57)

/-- The parts of some contents; at least one (log 23). -/
def partsOf (contents : Contents) : List (List Byte) :=
  pieces ((Config.queryBytes contents).length + 1) (Config.queryBytes contents)

def Contents.kind : Contents → QueryKind
  | .odometry _ => .odometry
  | .supervision _ => .supervision
  | .demands _ => .demands
  | .test _ => .test
  | .doors _ => .doors
  | .radio _ => .radio
  | .authority _ => .authority
  | .restrictions _ => .restrictions

end Sys2Proof.Machine
end

