-- ==== Sys2Proof/Machine/Ops.lean ====
section
/-! DEFINITION. The operations every block uses: queuing a notice (R189), the uplink outbox with its
sequence numbers (R161 to R163), and the reports other blocks call for (R162, R163). -/

namespace Sys2Proof.Machine

/-! ### Notices -/

/-- The room of the notice queue and of the reply list (R185, R189). -/
def noticeRoom : Nat := 32
def replyRoom : Nat := 8

/-- A block queues a notice; a full queue loses it and sets NOTICES_LOST (R189). -/
def notify (n : Notice) (d : Device) : Device :=
  if d.clp.notices.length < noticeRoom then
    { d with clp := { d.clp with notices := d.clp.notices ++ [n] } }
  else { d with clp := { d.clp with lost := true } }

/-! ### The outbox -/

/-- The room of the outbox, the duplicate window and the ACK list (R159 to R161). -/
def outboxRoom : Nat := 16
def windowRoom : Nat := 16
def ackRoom : Nat := 8

/-- Whether an entry of the outbox carries a number. -/
def carries (outbox : List OutEntry) (seq : Byte) : Bool := outbox.any (fun e => e.seq == seq)

/-- The first number from `seq` on, within `fuel` steps, that no entry carries (R161). -/
def freeSeq (outbox : List OutEntry) : Nat → Byte → Byte
  | 0, seq => seq
  | fuel + 1, seq => if carries outbox seq then freeSeq outbox fuel (seq + 1#8) else seq

/-- A QUEUED entry of a kind. -/
def OutEntry.queuedOf (e : OutEntry) (kind : UplinkKind) : Bool := !e.awaiting && e.kind == kind

/-- A new entry at the end of the outbox, with the next free number (R161, R163). -/
def appendEntry (kind : UplinkKind) (payload : List Byte) (d : Device) : Device :=
  let seq := freeSeq d.vru.outbox outboxRoom d.vru.seqCounter
  { d with vru := { d.vru with
      outbox := d.vru.outbox ++ [⟨seq, kind, payload, false, 0, none, false, none⟩]
      seqCounter := seq + 1#8 } }

/-- The transmitter no longer holds the sending of an entry (R154, R164). -/
def forgetSending (seq : Byte) (tx : Option TxJob) : Option TxJob :=
  tx.map (fun j => if j.entry = some seq then { j with entry := none } else j)

/-- An entry leaves the outbox from any place; a sending on the line runs to its end. -/
def dropEntry (seq : Byte) (d : Device) : Device :=
  { d with vru := { d.vru with
      outbox := d.vru.outbox.filter (fun e => e.seq != seq)
      tx := forgetSending seq d.vru.tx } }

/-- An entry of the outbox is rewritten in its slot. -/
def mapEntry (seq : Byte) (f : OutEntry → OutEntry) (d : Device) : Device :=
  { d with vru := { d.vru with
      outbox := d.vru.outbox.map (fun e => if e.seq = seq then f e else e) } }

/-- The QUEUED position report leaves, if one stands (R163). -/
def dropQueuedReport (d : Device) : Device :=
  match d.vru.outbox.find? (fun e => e.queuedOf .positionReport) with
  | some e => dropEntry e.seq d
  | none => d

/-- Whether an entry other than a position report or a LOGON finds room (R163). -/
def roomFor (d : Device) : Bool :=
  decide (d.vru.outbox.length < outboxRoom)
    || d.vru.outbox.any (fun e => e.queuedOf .positionReport)

/-- Queuing an EVENT_REPORT or AUTHORITY_REQUEST: with the number it took, or `none` (R163). -/
def queueEntry (kind : UplinkKind) (payload : List Byte) (d : Device) : Device × Option Byte :=
  if roomFor d then
    let d1 := if d.vru.outbox.length < outboxRoom then d else dropQueuedReport d
    (appendEntry kind payload d1,
     some (freeSeq d1.vru.outbox outboxRoom d1.vru.seqCounter))
  else (notify (.outboxFull kind) d, none)

/-! ### Reports -/

/-- The payload of a POSITION_REPORT (R162; layout in 11_car_link.md). -/
def positionPayload (d : Device) : List Byte :=
  let o := d.odu
  [boolByte o.known]
    ++ bytes24 (if o.known then BitVec.ofNat 24 o.position else 0#24)
    ++ bytes24 (if o.known then BitVec.ofNat 24 (uncertainty d) else 0#24)
    ++ bytes16 (o.lastMarker.getD 0#16)
    ++ [dirByte (travelDir d)]
    ++ bytes16 (BitVec.ofNat 16 o.speed)
    ++ [boolByte o.standstill, modeByte d.mdc.mode,
        (boolByte d.mdc.causeRadio <<< 1) ||| boolByte d.mdc.causePosition,
        levelByte d.bdt.applied,
        (match d.bdt.governing with
         | some g => BitVec.ofNat 8 g.number
         | none => 0#8),
        boolByte d.bdt.hold]

/-- A position report is called for (R162): it replaces a QUEUED one in its slot, or is queued at the
end, or finds the outbox full (R163). -/
def callPosition (d : Device) : Device :=
  match d.vru.outbox.find? (fun e => e.queuedOf .positionReport) with
  | some e => mapEntry e.seq (fun x => { x with payload := positionPayload d }) d
  | none =>
    if d.vru.outbox.length < outboxRoom then appendEntry .positionReport (positionPayload d) d
    else notify (.outboxFull .positionReport) d

/-- The payload of an EVENT_REPORT (R163; layout in 11_car_link.md). -/
def eventPayload (e : Entry) : List Byte :=
  [BitVec.ofNat 8 e.src.number, levelByte e.level, entryStateByte e.state]
    ++ (match e.raisedAt with
        | none => [0#8] ++ bytes24 0#24
        | some .unplaced => [1#8] ++ bytes24 0#24
        | some (.at c) => [2#8] ++ chainageBytes c)

/-- An EVENT_REPORT is called for (R95, R163). -/
def callEvent (e : Entry) (d : Device) : Device :=
  (queueEntry .eventReport (eventPayload e) d).1

end Sys2Proof.Machine
end

