-- ==== Sys2Proof/Machine/BrakeOps.lean ====
section
/-! DEFINITION. The shared operations of the Brake Demand Table and the Brake Actuation Unit: one event
of the table brought up to date as a whole (R85, R89 to R95), the outputs (R106 to R110), the end of a
brake test (R119) and the feedback judgement (R111, R112). -/

namespace Sys2Proof.Machine

/-! ### Outputs -/

/-- The table pattern of the channels (R106, R109). -/
def tablePattern (d : Device) : Commanded :=
  if d.mdc.mode = .stabled then .springApplied
  else if d.bdt.hold then .springApplied
  else match d.bdt.applied with
    | .none | .notify | .cut => .released
    | .service => if d.bau.blend then .serviceApplied else .released
    | .full => .fullApplied
    | .emergency => .springApplied

/-- The pattern of a phase for a channel, with the creep guard (table before R113; R116). -/
def phasePattern (phase : Phase) (guard : Bool) : Channel → Commanded
  | .a => if phase = .bOnly ∧ ¬ guard then .released else .fullApplied
  | .b => if phase = .aOnly ∧ ¬ guard then .released else .fullApplied

/-- The commanded state that a channel is to have (R105, R106, R115). -/
def pattern (d : Device) (ch : Channel) : Commanded :=
  match d.bau.run with
  | some r => phasePattern r.phase r.guard ch
  | none => tablePattern d

/-- The duty of the full-service valve in SERVICE_APPLIED, per mille (R107). -/
def serviceDuty (config : Option CarConfig) (svcDecel : Nat) : Nat :=
  match config with
  | some c => min 1000 (max 200 (svcDecel * 1000 / c.aSb))
  | none => 200

/-- The valve drives of a commanded state (R107). -/
def valvesFor (duty : Nat) : Commanded → Bool × ValveDrive
  | .released => (true, .off)
  | .serviceApplied => (true, .pulsed duty)
  | .fullApplied => (true, .on)
  | .springApplied => (false, .off)

/-- The feedback timer started anew, where a configuration gives its time (R111). -/
def feedbackTimer (d : Device) (before : Option Timer) : Option Timer :=
  match d.mdc.config with
  | some c => some ⟨d.now, Config.ms c.feedbackTime⟩
  | none => before

/-- A channel takes a commanded state; a change starts its feedback timer (R105, R111). -/
def commandChannel (d : Device) (new : Commanded) (c : ChannelRec) : ChannelRec :=
  let valves := valvesFor (serviceDuty d.mdc.config d.bdt.svcDecel) new
  { c with
    commanded := new
    timer := if new = c.commanded then c.timer else feedbackTimer d c.timer
    releaseValve := valves.1
    fullValve := valves.2 }

/-- Whether the EMERGENCY row of R106 is in use. -/
def emergencyRow (d : Device) : Bool := d.bdt.hold || d.bdt.applied == .emergency

/-- The electric brake demand (R106). -/
def edbDemandOf (d : Device) : Nat :=
  let aEb := match d.mdc.config with
    | some c => min Config.maxEdbDemand c.aEb
    | none => 0
  if emergencyRow d then aEb
  else match d.bdt.applied with
    | .service => min Config.maxEdbDemand d.bdt.svcDecel
    | .full => aEb
    | _ => 0

/-- Traction permission (R110). -/
def tractionOf (d : Device) : Bool :=
  d.bdt.applied == .none && d.mdc.mode.inService && !d.bdt.hold

/-- BAU recomputes every output (R105 to R110). -/
def setOutputs (d : Device) : Device :=
  { d with bau := { d.bau with
      channels := ⟨commandChannel d (pattern d .a) d.bau.channels.a,
                   commandChannel d (pattern d .b) d.bau.channels.b⟩
      ebLine := emergencyRow d
      edbDemand := edbDemandOf d
      traction := tractionOf d } }

/-- The blend latch judged at one of the events of R108 that may set it. -/
def judgeBlend (d : Device) : Device :=
  { d with bau := { d.bau with blend := d.bau.blend || blendSets d } }

/-- The blend latch after an event of the table: cleared away from SERVICE and at a setting of the
hold, judged at a change into SERVICE (R108). -/
def blendAfter (old : Bdt) (d : Device) : Device :=
  if d.bdt.applied ≠ .service ∨ (d.bdt.hold ∧ ¬ old.hold) then
    { d with bau := { d.bau with blend := false } }
  else if old.applied ≠ .service then judgeBlend d
  else d

/-! ### One event of the table -/

/-- What a raise carries. -/
structure Raise where
  level : Level
  decel : Option Nat
  place : RaisePlace
  noStop : Bool
  deriving DecidableEq, Repr

/-- An entry takes a raise (R89); the passenger alarm is judged against the no-stop zones (R101). -/
def raiseEntry (r : Raise) (e : Entry) : Entry :=
  let on := { e with cond := true, state := .active, carried := r.level, decel := r.decel,
                     raisedAt := some r.place }
  let defer := { on with state := .deferred }
  match e.state with
  | .idle | .held => if e.src = .passengerAlarm ∧ r.noStop then defer else on
  | .active =>
    if e.src.carriesLevel then { e with cond := true, carried := r.level, decel := r.decel }
    else if e.src = .passengerAlarm ∧ r.noStop then defer
    else { e with cond := true }
  | .deferred => if r.noStop then defer else on

/-- An entry takes a clear (R90); a clear for a condition not present changes nothing (R85). -/
def clearEntry (e : Entry) : Entry :=
  if e.cond then
    match e.state with
    | .active =>
      if e.mode = .flow then { e with cond := false, state := .idle, decel := none }
      else { e with cond := false, state := .held }
    | _ => { e with cond := false }
  else e

/-- The passenger alarm judged at a speed sample (R101, R102). -/
def judgeAlarmEntry (noStop : Bool) (e : Entry) : Entry :=
  match e.state with
  | .active => if noStop then { e with state := .deferred } else e
  | .deferred =>
    if noStop then e else if e.cond then { e with state := .active } else { e with state := .held }
  | _ => e

/-- A change of the one entry of a source. -/
def onEntry (src : Source) (f : Entry → Entry) (entries : List Entry) : List Entry :=
  entries.map (fun e => if e.src = src then f e else e)

/-- The DEMAND notice of an entry (R95). -/
def demandNotice (e : Entry) : Notice := .demand e.src e.state e.cond e.level e.raisedAt

/-- The entries whose state changed, as they stand after the event. -/
def changedEntries (before after : List Entry) : List Entry :=
  ((before.zip after).filter (fun p => p.1.state != p.2.state)).map (·.2)

/-- The table after a change of its entries (R92 to R94). -/
def bdtAfter (f : List Entry → List Entry) (d : Device) : Bdt :=
  let entries := f d.bdt.entries
  { d.bdt with
    entries := entries
    applied := appliedLevel entries
    governing := governingSource entries
    hold := holdAfter entries d.odu.standstill d.bdt.hold
    svcDecel := serviceDecel d.mdc.config entries }

/-- The notices of an event: DEMAND for each entry whose state changed, then BRAKE_LEVEL (R95). -/
def tableNotices (old : Bdt) (d : Device) : Device :=
  let d1 := (changedEntries old.entries d.bdt.entries).foldl (fun x e => notify (demandNotice e) x) d
  if old.applied = d.bdt.applied ∧ old.governing = d.bdt.governing ∧ old.hold = d.bdt.hold then d1
  else notify (.brakeLevel d.bdt.applied d.bdt.governing d.bdt.hold) d1

/-- The calls an event makes of the Valley Radio Unit: the position report, then the EVENT_REPORTs of
the configured-level sources in number order (R95). -/
def tableReports (old : Bdt) (d : Device) : Device :=
  let d1 :=
    if old.applied.rank < d.bdt.applied.rank ∧ Level.service.rank ≤ d.bdt.applied.rank then
      callPosition d
    else d
  ((changedEntries old.entries d.bdt.entries).filter (fun e => !e.src.carriesLevel)).foldl
    (fun x e => callEvent e x) d1

/-- One event of the table, taken whole (R85), with its notices, its reports and the hand-over to the
Brake Actuation Unit (R93). It does not look at a running brake test. -/
def tableEvent (f : List Entry → List Entry) (d : Device) : Device :=
  setOutputs (blendAfter d.bdt
    (tableReports d.bdt (tableNotices d.bdt { d with bdt := bdtAfter f d })))

/-- What a raise of a source carries at this moment, with a level and a deceleration (R85). -/
def raiseOf (level : Level) (decel : Option Nat) (d : Device) : Raise :=
  ⟨level, decel, raisePlace d, overNoStop d⟩

/-! ### The end of a brake test -/

/-- The distance test of R56 at a change of the test state. The test is over, so nothing is left for
the raise to abort. -/
def rollawayAfterTest (d : Device) : Device :=
  if rollawayDue d ∧ ¬ d.bdt.present .rollaway then
    tableEvent (onEntry .rollaway (raiseEntry (raiseOf .none none d))) d
  else d

/-- Step 1 of R119: the phase ends and the channels return to the table pattern. -/
def endPhase (d : Device) : Device := setOutputs { d with bau := { d.bau with run := none } }

/-- The movement that the end of a phase leaves in the record (R116). -/
def movementAfter (t : TestRec) (run : Option TestRun) : Nat :=
  match run with
  | some r => if r.phase.single then max t.movement (min 65535 r.movement) else t.movement
  | none => t.movement

/-- Step 2 of R119: the record. -/
def writeTestEnd (result : TestResult) (cause : EndCause) (movement : Nat) (d : Device) : Device :=
  { d with bau := { d.bau with
      test := { d.bau.test with result := result, endCause := some cause, movement := movement } } }

/-- Step 3 of R119: BRAKE_TEST raised and at once cleared, and for FEEDBACK the BRAKE_FAULT raise. -/
def reportTestFailure (cause : EndCause) (d : Device) : Device :=
  let d1 := tableEvent (onEntry .brakeTest (raiseEntry (raiseOf .none none d))) d
  let d2 := tableEvent (onEntry .brakeTest clearEntry) d1
  if cause = .feedback then
    tableEvent (onEntry .brakeFault (raiseEntry (raiseOf .none none d2))) d2
  else d2

/-- The end of a test (R119). A running test means PREPARATION, so telling Mode Control moves no mode
(log 25). The roll-away test (R56) comes before TEST_RESULT by the model's choice (log 54). -/
def endTest (result : TestResult) (cause : EndCause) (d : Device) : Device :=
  let d1 := writeTestEnd result cause (movementAfter d.bau.test d.bau.run) (endPhase d)
  let d2 := if result = .failed then reportTestFailure cause d1 else d1
  let d3 := rollawayAfterTest d2
  notify (.testResult d3.bau.test) d3

/-- An entry at EMERGENCY ends a running test (R117). -/
def abortIfEmergency (d : Device) : Device :=
  if d.bau.run.isSome ∧ anyEmergency d.bdt.entries then endTest .aborted .emergency d else d

/-- One event of the table, with what it does to a running test. -/
def bdtEvent (f : List Entry → List Entry) (d : Device) : Device := abortIfEmergency (tableEvent f d)

/-! ### Raises and clears -/

/-- A raise with a carried level and deceleration; a carried NONE is a clear (R89). -/
def raiseWith (src : Source) (level : Level) (decel : Option Nat) (d : Device) : Device :=
  if src.carriesLevel ∧ level = .none then bdtEvent (onEntry src clearEntry) d
  else bdtEvent (onEntry src (raiseEntry (raiseOf level decel d))) d

/-- A raise of a configured-level source. -/
def raise (src : Source) (d : Device) : Device := raiseWith src .none none d

/-- A clear. -/
def clear (src : Source) (d : Device) : Device := bdtEvent (onEntry src clearEntry) d

/-- A block's condition comes to hold or not to hold: a raise when it becomes present, a clear when it
ceases, no event otherwise (R85). -/
def setCondition (src : Source) (present : Bool) (d : Device) : Device :=
  if present ∧ ¬ d.bdt.present src then raise src d
  else if ¬ present ∧ d.bdt.present src then clear src d
  else d

/-! ### Brake actuation -/

/-- BAU's own events: the latch judged, then every output (R105, R108). -/
def refreshBrakes (d : Device) : Device := setOutputs (judgeBlend d)

/-- BRAKE_FAULT follows the fault flags; its raise first ends a running test (R112, R117). -/
def judgeBrakeFault (before : Bool) (d : Device) : Device :=
  if d.bau.anyFault ∧ ¬ before then
    if d.bau.run.isSome then endTest .failed .feedback d else raise .brakeFault d
  else if ¬ d.bau.anyFault ∧ before then clear .brakeFault d
  else d

/-- A channel is judged for disagreement (R111). -/
def judgeChannel (ch : Channel) (d : Device) : Device :=
  let c := d.bau.channels.ofChannel ch
  judgeBrakeFault d.bau.anyFault
    { d with bau := { d.bau with
        channels := d.bau.channels.setChannel ch { c with fault := c.disagrees } } }

/-- A phase begins, or the test ends for want of standstill (R115, R118). -/
def beginPhase (phase : Phase) (cycle : Nat) (d : Device) : Device :=
  if d.odu.standstill then
    let held := d.bau.test.holdPoint = some (cycle, phase)
    let timer := match d.mdc.config with
      | some c =>
        if held then none
        else some ⟨d.now, Config.sec (if phase.single then c.testHold else c.testSettle)⟩
      | none => none
    setOutputs { d with bau := { d.bau with
      run := some ⟨phase, cycle, timer, false, 0⟩
      test := { d.bau.test with phaseReached := some phase, cycleReached := some cycle } } }
  else endTest .aborted .standstillLost d

/-- The movement of a single-brake phase enters the record at the end of the phase (R116). -/
def notePhaseMovement (d : Device) : Device :=
  { d with bau := { d.bau with
      test := { d.bau.test with movement := movementAfter d.bau.test d.bau.run } } }

/-- The end of a phase's time: the next phase, or the end of the test (R115). -/
def nextPhase (r : TestRun) (d : Device) : Device :=
  let d1 := notePhaseMovement d
  match r.phase with
  | .aOnly => beginPhase .settle1 r.cycle d1
  | .settle1 => beginPhase .bOnly r.cycle d1
  | .bOnly => beginPhase .settle2 r.cycle d1
  | .settle2 =>
    match d.mdc.config with
    | some c => if r.cycle < c.testCycles then beginPhase .aOnly (r.cycle + 1) d1
                else endTest .passed .completed d1
    | none => endTest .passed .completed d1

/-- A distance from the source feeds the movement of a single-brake phase and may end the test
(R116). -/
def testMovement (mag : Nat) (d : Device) : Device :=
  match d.bau.run, d.mdc.config with
  | some r, some c =>
    if r.phase.single then
      let moved := r.movement + mag
      let d1 := { d with bau := { d.bau with run := some { r with movement := moved } } }
      if c.creepTolerance ≤ moved then endTest .failed .creep d1 else d1
    else d
  | _, _ => d

/-- What the test does when the standstill indication clears: the creep guard in a single-brake
phase, the end of the test in a settle phase (R116, R117). -/
def testStandstillLost (d : Device) : Device :=
  match d.bau.run with
  | some r =>
    if r.phase.single then { d with bau := { d.bau with run := some { r with guard := true } } }
    else endTest .aborted .standstillLost d
  | none => d

/-- The creep guard clears when standstill is indicated again (R116). -/
def clearGuard (d : Device) : Device :=
  { d with bau := { d.bau with run := d.bau.run.map (fun r => { r with guard := false }) } }

end Sys2Proof.Machine
end

