-- ==== Sys2Proof/Machine/DoorOps.lean ====
section
/-! DEFINITION. The shared operations of the Door Control Unit (chapter 7) and the Door Bus Master
(chapter 8): a door record and its notice, the three door conditions, withdrawal of a release, a
report taken, and the transactions of the bus. -/

namespace Sys2Proof.Machine

/-! ### Door records -/

/-- A door record is written; DOOR is queued when state, order or attempt count changed (R124). -/
def setDoor (n : DoorNo) (r : DoorRec) (d : Device) : Device :=
  let old := d.dcu.doors.get n
  let d1 := { d with dcu := { d.dcu with doors := d.dcu.doors.set n r } }
  if old.state = r.state ∧ old.order = r.order ∧ old.attempts = r.attempts then d1
  else notify (.door n r.state r.order r.attempts) d1

/-- Every door in number order is rewritten. -/
def eachDoor (f : DoorNo → DoorRec → DoorRec) (d : Device) : Device :=
  allDoors.foldl (fun x n => setDoor n (f n (x.dcu.doors.get n)) x) d

/-- DOOR_MOVING judged after an event of a door: it ends when every door is secured, and begins when
the event shows a door moving (R138). -/
def judgeMoving (moving : Bool) (d : Device) : Device :=
  let d1 := if moving then setCondition .doorMoving true d else d
  if allSecured d1 then setCondition .doorMoving false d1 else d1

/-- DOOR_HOLD (R129), DOOR_MOVING (R138) and PASSENGER_ALARM (R139), judged after an event of a door in
the order in which file 95 lists them (DOOR_REPORT; log 36). -/
def judgeConditions (moving : Bool) (d : Device) : Device :=
  let d2 := judgeMoving moving (setCondition .doorHold (!allSecured d) d)
  setCondition .passengerAlarm (alarmPulled d2) d2

/-- The three conditions after an event that shows no door moving. -/
def judgeDoorConditions (d : Device) : Device := judgeConditions false d

/-- A door is told to close, as CLOSE_DOORS does it (R134). -/
def closeDoor (r : DoorRec) : DoorRec :=
  if r.state = .locked then { r with order := .lock, attempts := 0 }
  else { r with order := .close, attempts := 0, dwell := none }

/-- A release in force is withdrawn (R133). -/
def withdrawRelease (d : Device) : Device :=
  match d.dcu.release with
  | none => d
  | some rel =>
    eachDoor (fun n r => if belongsTo d n rel.side ∧ r.order = .release then closeDoor r else r)
      { d with dcu := { d.dcu with release := none } }

/-- The release record judged against the events of R133. -/
def judgeRelease (d : Device) : Device :=
  match d.dcu.release with
  | none => d
  | some rel => if releaseMayStand d rel.side then d else withdrawRelease d

/-- A door enters FAULT (R127). -/
def faultDoor (r : DoorRec) : DoorRec :=
  if r.state = .fault then r
  else { r with state := .fault, dwell := none,
                order := if r.order = .reopen then .close else r.order }

/-- An obstruction under CLOSE (R134). -/
def obstructDoor (config : Option CarConfig) (now : Nat) (r : DoorRec) : DoorRec :=
  match config with
  | some c => { r with state := .reversing, order := .reopen,
                       dwell := some ⟨now, Config.sec c.reopenDwell⟩ }
  | none => { r with state := .obstructed, order := .reopen }

/-- The table of R128 by leaf and lock. -/
def shownDoor (x : Report) (r : DoorRec) : DoorRec :=
  let opened (s : DoorState) : DoorRec :=
    if r.order = .lock then { r with state := s, order := .close, attempts := 0 }
    else { r with state := s }
  match x.leaf with
  | .closed =>
    if x.locked then
      { r with state := .locked,
               order := if r.order = .close ∨ r.order = .reopen then .lock else r.order }
    else { r with state := if r.order = .release then .released else .closed }
  | .opening => opened .opening
  | .open => opened .open
  | .closing => opened .closing

/-- Steps 3 and 4 of R128. -/
def judgedDoor (config : Option CarConfig) (now : Nat) (x : Report) (r : DoorRec) : DoorRec :=
  if r.order = .close ∧ x.obstruction ∧ ¬ (x.leaf = .closed ∧ x.locked) then
    obstructDoor config now r
  else shownDoor x r

/-- A door record after a report (R127, R128). The report is already written into it. -/
def reportedDoor (config : Option CarConfig) (now : Nat) (x : Report) (r : DoorRec) : DoorRec :=
  if x.faulty then faultDoor r
  else if r.state = .fault then judgedDoor config now x r
  else if r.state = .obstructed ∧ r.order = .reopen then r
  else if r.state = .reversing ∧ r.dwell.isSome then
    if x.leaf = .closed ∧ x.locked then
      { r with state := .locked, dwell := none, order := .lock }
    else r
  else judgedDoor config now x r

/-- DCU takes a report (R125); none is taken for an ISOLATED door. -/
def takeReport (n : DoorNo) (x : Report) (d : Device) : Device :=
  let r := d.dcu.doors.get n
  if r.state = .isolated then d
  else
    let d1 := setDoor n (reportedDoor d.mdc.config d.now x { r with last := some x }) d
    judgeConditions (x.notShut && !d1.odu.standstill) d1

/-- The Door Bus Master reports a link LOST (R127, R147); a loss after the isolation is discarded
(R136). -/
def loseDoor (n : DoorNo) (d : Device) : Device :=
  let r := d.dcu.doors.get n
  if r.state = .isolated then d else judgeDoorConditions (setDoor n (faultDoor r) d)

/-- DOOR_MOVING judged at a clearing of the standstill indication (R138). -/
def judgeDoorsMoving (d : Device) : Device :=
  if someDoorNotShut d then setCondition .doorMoving true d else d

/-! ### The bus -/

/-- Whether a unit is in the rotation: its door is not ISOLATED (R142). -/
def inRotation (d : Device) (n : DoorNo) : Bool := (d.dcu.doors.get n).state != .isolated

/-- The four units from the one in turn on. -/
def turnOrder (n : DoorNo) : List DoorNo := [n, n.next, n.next.next, n.next.next.next]

/-- The poll of a unit as DBM forms it now (R143). -/
def formPoll (d : Device) (n : DoorNo) (repeatNo : Nat) : Stage :=
  .polling (pollBytes n (d.dcu.doors.get n).order repeatNo d.odu.standstill)

/-- While no transaction is in progress, the next begins with the unit in turn (R142). -/
def busPump (d : Device) : Device :=
  match d.dbm.trans with
  | some _ => d
  | none =>
    match (turnOrder d.dbm.turn).find? (inRotation d) with
    | some n => { d with dbm := { d.dbm with turn := n, trans := some ⟨n, formPoll d n 0, 0, d.now, false⟩ } }
    | none => d

/-- The transaction ends and the turn passes to the next unit (R142). -/
def endTrans (t : Trans) (d : Device) : Device :=
  { d with dbm := { d.dbm with trans := none, turn := t.unit.next } }

/-- A link record is rewritten. -/
def mapLink (n : DoorNo) (f : LinkRec → LinkRec) (d : Device) : Device :=
  { d with dbm := { d.dbm with links := d.dbm.links.set n (f (d.dbm.links.get n)) } }

/-- A link record after a miss (R146, R147). -/
def missedLink (waited : Bool) (l : LinkRec) : LinkRec :=
  let count := min 255 (l.misses + 1)
  { l with misses := count, missFlag := true, waitFlag := l.waitFlag || waited,
           link := if 3 ≤ count then .lost else l.link }

/-- A transaction ends as a miss (R146); the loss of a link is told once (R147). An abandoned
transaction counts none (R150). -/
def missTrans (t : Trans) (waited : Bool) (d : Device) : Device :=
  let d1 := endTrans t d
  if t.abandoned then d1
  else
    let before := (d1.dbm.links.get t.unit).link
    let d2 := mapLink t.unit (missedLink waited) d1
    if before ≠ .lost ∧ (d2.dbm.links.get t.unit).link = .lost then loseDoor t.unit d2 else d2

/-- A good REPORT ends the transaction (R144); after an isolation it is discarded (R150). -/
def reportTrans (t : Trans) (x : Report) (d : Device) : Device :=
  let d1 := endTrans t d
  if t.abandoned then d1
  else takeReport t.unit x
    (mapLink t.unit (fun l => { l with last := some (x, d.now), misses := 0, link := .ok }) d1)

/-- A good WAIT: a repeat poll within the wait bound, else a miss with the mark (R145). -/
def waitTrans (t : Trans) (d : Device) : Device :=
  if t.abandoned then endTrans t d
  else if d.now + Config.repeatDelayMicros ≤ t.start + Config.waitBoundMicros then
    { d with dbm := { d.dbm with
        trans := some { t with stage := .repeatDue (d.now + Config.repeatDelayMicros) } } }
  else missTrans t true d

/-- An answer judged in an open window (R144 to R146); without a window its bytes are discarded. -/
def takeAnswer (judge : DoorNo → Answer) (d : Device) : Device :=
  match d.dbm.trans with
  | some t =>
    match t.stage with
    | .window _ =>
      match judge t.unit with
      | .report x => reportTrans t x d
      | .wait => waitTrans t d
      | .bad => missTrans t false d
    | _ => d
  | none => d

/-- DCU tells DBM of an isolation (R150). -/
def isolateUnit (n : DoorNo) (d : Device) : Device :=
  let d1 := mapLink n (fun l => { l with link := .unknown, misses := 0, last := none }) d
  match d1.dbm.trans with
  | some t =>
    if t.unit = n then
      match t.stage with
      | .repeatDue _ => endTrans t d1
      | _ => { d1 with dbm := { d1.dbm with trans := some { t with abandoned := true } } }
    else d1
  | none => d1

end Sys2Proof.Machine
end

