-- ==== Sys2Proof/Machine/ModeOps.lean ====
section
/-! DEFINITION. The shared operations of Mode Control: the MODE entry (R2, R100), a change of mode with
all that it brings (R1, R64, R133), and the DEGRADED cause set (R3, R4). -/

namespace Sys2Proof.Machine

/-- The MODE entry takes the level that mode and hold call for (R2, R100). -/
def refreshModeEntry (d : Device) : Device := raiseWith .mode (modeLevel d.mdc) none d

/-- The notice MODE (R1). -/
def modeNotice (d : Device) : Device :=
  notify (.mode d.mdc.mode d.mdc.causePosition d.mdc.causeRadio) d

/-- The roll-away test (R56): ROLLAWAY is raised where it is due and not present. -/
def rollawayTest (d : Device) : Device := if rollawayDue d then setCondition .rollaway true d else d

/-- The supervision record in PREPARATION and STABLED (R64, R82). -/
def ssvQuiet : Ssv :=
  { modeEvaluated := none, v := 0, pc := 0, p := 0, e := 0, status := .normal, overspeedSb := false,
    overspeedEb := false, authority := false, targets := [], mostRestrictive := none, decels := none }

/-- The most restrictive target of a record. -/
def Ssv.mostTarget (r : Ssv) : Option Target := r.mostRestrictive.bind (fun i => r.targets[i]?)

/-- What R76 shows of a target. -/
def Target.shown (t : Target) : ShownTarget := ⟨t.kind, t.distance, t.speed⟩

/-- The notice SUPERVISION_STATUS of a record (R76). -/
def statusNotice (r : Ssv) : Notice :=
  .supervisionStatus r.status r.v r.pc r.p r.e (r.mostTarget.map Target.shown)

/-- A change from a supervised mode to PREPARATION or STABLED (R64); the order of the clears is log 54. -/
def quietSupervisor (d : Device) : Device :=
  let before := d.ssv.status
  let d1 := setCondition .overspeedSb false d
  let d2 := setCondition .overspeedEb false d1
  let d3 := setCondition .authority false d2
  let d4 := { d3 with ssv := ssvQuiet }
  if before = .normal then d4 else notify (statusNotice ssvQuiet) d4

/-- A change of mode (R1): the MODE entry, the notice, the position report, and what the other blocks
do at it. A request that leaves the mode as it was changes nothing. No rule orders the readers: the
supervisor (R64), the release (R133), the roll-away test (R56) is the model's choice (log 51). -/
def changeMode (m : Mode) (d : Device) : Device :=
  if d.mdc.mode = m then d
  else
    let wasSupervised := d.mdc.mode.supervised
    let d1 := setOutputs (refreshModeEntry { d with mdc := { d.mdc with mode := m } })
    let d2 := callPosition (modeNotice d1)
    let d3 := if wasSupervised ∧ ¬ m.supervised then quietSupervisor d2 else d2
    rollawayTest (judgeRelease d3)

/-- The cause set as the owning blocks report it (R3). -/
def causesNow (d : Device) : Bool × Bool := (d.bdt.present .position, d.vru.link != .online)

/-- The mode that a changed cause set calls for (R4). -/
def modeForCauses (mode : Mode) (causes : Bool × Bool) : Mode :=
  match mode with
  | .service => if causes.1 || causes.2 then .degraded else .service
  | .degraded => if causes.1 || causes.2 then .degraded else .service
  | m => m

/-- The owning blocks report their causes: the set, the notice, and the move between SERVICE and
DEGRADED (R1, R3, R4). -/
def reportCauses (d : Device) : Device :=
  let causes := causesNow d
  if causes = (d.mdc.causePosition, d.mdc.causeRadio) then d
  else
    let d1 := { d with mdc := { d.mdc with causePosition := causes.1, causeRadio := causes.2 } }
    let m := modeForCauses d.mdc.mode causes
    if m = d.mdc.mode then modeNotice d1 else changeMode m d1

/-- The mode a car enters into service (R5, R7). -/
def serviceMode (d : Device) : Mode :=
  if d.mdc.causePosition || d.mdc.causeRadio then .degraded else .service

end Sys2Proof.Machine
end

