-- ==== Sys2Proof/Machine/MotionOps.lean ====
section
/-! DEFINITION. The shared operations of the Odometry Unit (chapter 3): the position test, the choice of
source, placement, mesh faults, the calibration vote, a distance from the source, and the setting and
clearing of the standstill indication. -/

namespace Sys2Proof.Machine

/-! ### The position record -/

/-- The POSITION condition, reported to the table and to Mode Control (R47). -/
def positionTest (d : Device) : Device :=
  reportCauses (setCondition .position (positionDoubtful d) d)

/-- What follows every change of the position record: the POSITION test and the release (R47, R133),
in this order by the model's choice (log 54). -/
def positionChanged (d : Device) : Device := judgeRelease (positionTest d)

/-- The record becomes unknown (R40): conflict and clamp clear. -/
def forgetPosition (d : Device) : Device :=
  { d with odu := { d.odu with known := false, conflict := false, clamp := false } }

/-- A position held within [0, line length], and whether it had to be clamped (R43). -/
def clampTo (lineLength : Nat) (p : Int) : Nat × Bool :=
  if p < 0 then (0, true)
  else if (lineLength : Int) < p then (lineLength, true)
  else (p.toNat, false)

/-- The choice of source made again (R38): a switch adds half a rack pitch to U and discards the
calibration window (R42, R57). -/
def chooseSource (d : Device) : Device :=
  let s := chosenSource d.odu.bogies
  if s = d.odu.source then d
  else
    let half := match d.mdc.config with
      | some c => ceilDiv c.rackPitch 2
      | none => 0
    let o := { d.odu with source := s, window := none }
    { d with odu :=
        if o.known then
          { o with uBase := min Config.maxUncertainty (uncertainty d + half), wheelRun := 0 }
        else o }

/-- RACK_ENTRY (R53). -/
def rackEntryTest (d : Device) : Device :=
  match d.mdc.config with
  | none => d
  | some c =>
    if anyEntering d ∧ c.rackEntryLimit + c.sbMargin < d.odu.speed then
      setCondition .rackEntry true d
    else if d.odu.speed ≤ c.rackEntryLimit ∨ ¬ anyEntering d then setCondition .rackEntry false d
    else d

/-- A mesh record at the start of a state. -/
def meshStart (s : MeshState) : MeshRec := ⟨s, 0, 0, 0, 0⟩

/-- A bogie's mesh record after a placement (R48). -/
def placedMesh (kind : Option Kind) (m : MeshRec) : MeshRec :=
  match m.state, kind with
  | .offRack, some .rack | .offRack, some .rackEntry => meshStart .entering
  | .entering, some .adhesion | .meshed, some .adhesion => meshStart .offRack
  | _, _ => m

/-- The missing-rack run returns to 0 while a bogie is not deep in rack (R51). -/
def resetShallow (d : Device) (which : Bogie) (m : MeshRec) : MeshRec :=
  if deepInRack d which then m else { m with missing := 0 }

/-- Both bogies' mesh records are rewritten. -/
def mapBogies (f : Bogie → MeshRec → MeshRec) (d : Device) : Device :=
  { d with odu := { d.odu with bogies := ⟨f .a d.odu.bogies.a, f .b d.odu.bogies.b⟩ } }

/-- The runs of the bogies that are not deep in rack, with U as it now stands (R51). -/
def clearShallow (d : Device) : Device := mapBogies (resetShallow d) d

/-- What follows a change of mesh states: the choice of source, which may widen U, and the RACK_ENTRY
test (R38, R51, R53). -/
def meshChanged (d : Device) : Device := rackEntryTest (clearShallow (chooseSource d))

/-- The bogies placed anew (R37, R48). Where one placement changes both mesh states the source is chosen
once, after both: the model's choice (log 47). -/
def placeBogies (d : Device) : Device :=
  let d1 := mapBogies (fun w m =>
    resetShallow d w (placedMesh ((bogiePlace d w).map (·.2)) m)) d
  if d1.odu.bogies.a.state = d.odu.bogies.a.state ∧ d1.odu.bogies.b.state = d.odu.bogies.b.state then d1
  else meshChanged d1

/-- Placement and what follows a change of the position record. -/
def placeAgain (d : Device) : Device := positionChanged (placeBogies d)

/-! ### Mesh -/

/-- A bogie's mesh record is written. -/
def setMesh (which : Bogie) (m : MeshRec) (d : Device) : Device :=
  { d with odu := { d.odu with bogies := d.odu.bogies.set which m } }

/-- A bogie goes to FAULT (R52). -/
def faultBogie (which : Bogie) (d : Device) : Device :=
  let d1 := setMesh which (meshStart .fault) d
  let d2 := setCondition .mesh true { d1 with odu := { d1.odu with window := none } }
  positionChanged (meshChanged d2)

/-- The end of a mesh window (R50). -/
def endMeshWindow (which : Bogie) (m : MeshRec) (d : Device) : Device :=
  let good := match d.mdc.config with
    | some c => decide (Config.meshWindow ≤ m.pinionCount + c.meshTolerance)
                  && decide (m.pinionCount ≤ Config.meshWindow + c.meshTolerance)
    | none => true
  if good then setMesh which { m with rackCount := 0, pinionCount := 0 } d else faultBogie which d

/-- A rack tooth feeds its bogie's mesh record (R49 to R51). -/
def rackToothMesh (which : Bogie) (d : Device) : Device :=
  let m := { d.odu.bogies.get which with missing := 0 }
  match m.state with
  | .offRack | .fault => setMesh which m d
  | .entering =>
    let matched := if m.pinionCount = 1 then m.matched + 1 else 0
    if Config.meshSync ≤ matched then
      positionChanged (meshChanged (setMesh which (meshStart .meshed) d))
    else setMesh which { m with pinionCount := 0, matched := matched } d
  | .meshed =>
    let m1 := { m with rackCount := m.rackCount + 1 }
    if Config.meshWindow ≤ m1.rackCount then endMeshWindow which m1 d else setMesh which m1 d

/-- A pinion tooth feeds its bogie's mesh record (R49, R50). -/
def pinionToothMesh (which : Bogie) (d : Device) : Device :=
  let m := d.odu.bogies.get which
  match m.state with
  | .entering | .meshed => setMesh which { m with pinionCount := m.pinionCount + 1 } d
  | .offRack | .fault => d

/-- A wheel distance feeds a bogie's missing-rack run (R51). -/
def missingRack (mag : Nat) (which : Bogie) (d : Device) : Device :=
  let m := d.odu.bogies.get which
  if (m.state = .entering ∨ m.state = .meshed) ∧ deepInRack d which then
    if Config.missingRackLimit ≤ m.missing + mag then faultBogie which d
    else setMesh which { m with missing := m.missing + mag } d
  else setMesh which { m with missing := 0 } d

/-- The recovery of the faulted bogies when MESH is acknowledged (R52). -/
def recoverBogies (d : Device) : Device :=
  let d1 := mapBogies (fun w m =>
    if m.state = .fault then
      match bogiePlace d w with
      | some (_, .rack) | some (_, .rackEntry) => meshStart .entering
      | _ => meshStart .offRack
    else m) d
  positionChanged (meshChanged d1)

/-! ### Calibration -/

/-- The vote at the end of a window (R58); `none` for no vote. Both sides are exact: distances are
compared in parts of (pulses per revolution × 10) of a millimetre. -/
def calVote (c : CarConfig) (circumference pulses : Nat) : Option Leaning :=
  let unit := c.pulsesPerRev * 10
  let wheel := pulses * circumference
  let rack := Config.calibrationWindow * c.rackPitch * unit
  let band := c.calDeadBand * rack
  if wheel < rack then (if (rack - wheel) * 1000 ≤ band then none else some .longer)
  else if (wheel - rack) * 1000 ≤ band then none else some .shorter

/-- The counter and the leaning after a vote, before a step (R59, items 1 to 3). -/
def votedCalib (vote : Leaning) (k : Calib) : Calib :=
  if vote = k.leaning then { k with counter := k.counter + 1 }
  else if 0 < k.counter then { k with counter := k.counter - 1 }
  else { k with leaning := vote, counter := 1 }

/-- The circumference after a step, if it stays within its bounds (R59, items 4 and 5). -/
def steppedCirc (c : CarConfig) (k : Calib) : Option Nat :=
  match k.leaning with
  | .longer =>
    if k.circumference + c.calStep ≤ c.circMax then some (k.circumference + c.calStep) else none
  | .shorter =>
    if c.circMin + c.calStep ≤ k.circumference then some (k.circumference - c.calStep) else none

/-- A vote acts on the calibration (R59). -/
def castVote (c : CarConfig) (k : Calib) (vote : Leaning) (d : Device) : Device :=
  let k1 := votedCalib vote k
  if c.calMax ≤ k1.counter then
    let k2 := { k1 with counter := c.calMin }
    match steppedCirc c k2 with
    | some x => { d with odu := { d.odu with calib := some { k2 with circumference := x } } }
    | none =>
      notify (.calibrationLimit k2.circumference k2.leaning)
        { d with odu := { d.odu with calib := some k2 } }
  else { d with odu := { d.odu with calib := some k1 } }

/-- The end of a calibration window (R57, R58). -/
def endCalWindow (pulses : Nat) (d : Device) : Device :=
  let d1 := { d with odu := { d.odu with window := none } }
  match d.mdc.config, d.odu.calib with
  | some c, some k =>
    match calVote c k.circumference pulses with
    | some v => castVote c k v d1
    | none => d1
  | _, _ => d1

/-- A rack tooth of the source bogie in the calibration window (R57). -/
def calTooth (sense : Sense) (d : Device) : Device :=
  if d.mdc.config.isNone then d
  else match d.odu.window with
    | none => { d with odu := { d.odu with window := some ⟨sense, 0, 0⟩ } }
    | some w =>
      if sense ≠ w.sense then { d with odu := { d.odu with window := none } }
      else if Config.calibrationWindow ≤ w.teeth + 1 then endCalWindow w.pulses d
      else { d with odu := { d.odu with window := some { w with teeth := w.teeth + 1 } } }

/-- A wheel pulse in the calibration window (R57). -/
def calPulse (sense : Sense) (d : Device) : Device :=
  match d.odu.window with
  | none => d
  | some w =>
    if sense ≠ w.sense then { d with odu := { d.odu with window := none } }
    else { d with odu := { d.odu with window := some { w with pulses := w.pulses + 1 } } }

/-! ### A distance from the source -/

/-- The position record after a distance (R41 to R43); only a distance taken from the wheel adds to the
wheel run. -/
def movePosition (fromWheel : Bool) (mag : Nat) (dir : Option Dir) (d : Device) : Device :=
  let o := { d.odu with
    dir := match dir with
      | some x => some x
      | none => d.odu.dir }
  if o.known then
    let o1 := { o with wheelRun := if fromWheel then o.wheelRun + mag else o.wheelRun }
    match dir with
    | none => { d with odu := o1 }
    | some x =>
      let moved : Int := match x with
        | .up => (o.position : Int) + mag
        | .down => (o.position : Int) - mag
      let r := clampTo d.prs.cur.lineLength.toNat moved
      let d1 := { d with odu := { o1 with position := r.1, clamp := o1.clamp || r.2 } }
      if r.2 ∧ d.prs.cur.segments = [] then forgetPosition d1 else d1
  else { d with odu := o }

/-- The roll-away accumulators after a distance (R56). -/
def rollawayDistance (mag : Nat) (dir : Option Dir) (d : Device) : Device :=
  let against := match dir, d.aru.selDir with
    | some x, some y => decide (x ≠ y)
    | _, _ => false
  rollawayTest { d with odu := { d.odu with
    anyAcc := d.odu.anyAcc + mag
    reverseAcc := if against then d.odu.reverseAcc + mag else d.odu.reverseAcc } }

/-- A distance taken from the source: the sample, the position record, the placement, the brake test's
movement and the roll-away test (R39, R41, R54, R56, R116). -/
def takeDistance (fromWheel : Bool) (mag : Nat) (dir : Option Dir) (d : Device) : Device :=
  let d1 := movePosition fromWheel mag dir
    { d with odu := { d.odu with sampleAcc := d.odu.sampleAcc + mag } }
  rollawayDistance mag dir (testMovement mag (placeAgain d1))

/-- The roll-away accumulators afresh (R56). -/
def zeroRollaway (d : Device) : Device :=
  { d with odu := { d.odu with reverseAcc := 0, anyAcc := 0 } }

/-! ### Standstill -/

/-- What follows a clearing of the standstill indication (R116, R117, R133, R138): the test, the outputs,
the release, DOOR_MOVING. The rules name one event and no order; this one is the model's choice
(log 50). -/
def standstillCleared (d : Device) : Device :=
  judgeDoorsMoving (judgeRelease (setOutputs (testStandstillLost d)))

/-- A counted edge of any pair (R36, R55). -/
def countEdge (d : Device) : Device :=
  let d1 := { d with odu := { d.odu with quiet := 0, edgeSince := true, standstill := false } }
  if d.odu.standstill then standstillCleared d1 else d1

/-- The start-up hold clears at the first standstill indication (R2). -/
def clearStartUpHold (d : Device) : Device :=
  if d.mdc.startUpHold then refreshModeEntry { d with mdc := { d.mdc with startUpHold := false } }
  else d

/-- A withdrawn authority becomes absent at standstill (R171, R174). -/
def endWithdrawn (d : Device) : Device :=
  match d.aru.auth with
  | some a =>
    if a.withdrawn then
      rollawayTest { d with aru := { d.aru with auth := none, timer := none } }
    else d
  | none => d

/-- The standstill indication is set (R55) and its readers act: MESH and ROLLAWAY end (R52, R56), the
start-up hold and the emergency hold clear (R2, R94), the blend latch and the creep guard are judged
(R108, R116), a withdrawn authority ends (R171). No rule orders the readers, and so whether the hold
clears before the blend latch is judged; this order is the model's choice (log 49). -/
def setStandstill (d : Device) : Device :=
  let d1 := zeroRollaway { d with odu := { d.odu with standstill := true, dir := none } }
  let d2 := setCondition .rollaway false (setCondition .mesh false d1)
  let d3 := bdtEvent id (clearStartUpHold d2)
  endWithdrawn (refreshBrakes (clearGuard d3))

end Sys2Proof.Machine
end

