-- ==== Sys2Proof/Machine/SuperviseOps.lean ====
section
/-! DEFINITION. The evaluation of the Speed Supervisor in its six stages (chapter 4). Every stage is a
function of the device as it stands when the sample is taken (R63). -/

namespace Sys2Proof.Machine

/-! ### Stage 1: the ceiling (R66, R67) -/

/-- Whether a restriction applies to a direction (R67). -/
def Restriction.appliesTo (r : Restriction) : Dir → Bool
  | .up => r.applies == .both || r.applies == .up
  | .down => r.applies == .both || r.applies == .down

/-- Whether a restriction overlaps a span (R67). -/
def Restriction.overlaps (r : Restriction) (span : Int × Int) : Bool :=
  decide ((r.start : Int) ≤ span.2) && decide (span.1 ≤ (r.stop : Int))

/-- The least of some values, at most `top`. -/
def leastOf (top : Nat) (values : List Nat) : Nat := values.foldl min top

/-- What the ceiling takes from the segments under the span: the limit for the direction of travel,
or the lower of both limits without one (R65, R66). -/
def spanLimit (c : CarConfig) (dir : Option Dir) (g : Segment) : Nat :=
  match dir with
  | some x => effectiveLimit c g x
  | none => min (effectiveLimit c g .up) (effectiveLimit c g .down)

/-- The values that the ceiling is the least of (R66). -/
def ceilingValues (c : CarConfig) (d : Device) (dir : Option Dir) (span : Int × Int) : List Nat :=
  (d.prs.cur.segmentsOver span.1 span.2).map (spanLimit c dir)
    ++ (d.aru.current.filter (fun r => r.overlaps span
          && (match dir with
              | some x => r.appliesTo x
              | none => true))).map (·.limit)
    ++ (if d.mdc.mode = .degraded then [c.degradedCeiling] else [])
    ++ (if anyEntering d then [c.rackEntryLimit] else [])

/-- P_c (R66); with no value present it is 15,000 (log 21). -/
def ceiling (c : CarConfig) (d : Device) (dir : Option Dir) (span : Int × Int) : Nat :=
  leastOf Config.maxSpeed (ceilingValues c d dir span)

/-! ### Stage 2: the target list (R68 to R70) -/

/-- The SEGMENT points for UP travel: the start of each segment (R68). -/
def pointsUp (c : CarConfig) (segments : List Segment) : List (Int × Nat) :=
  segments.map (fun g => ((g.start.toNat : Int), effectiveLimit c g .up))

/-- The SEGMENT points for DOWN travel: the start of the segment above each segment (R68). -/
def pointsDown (c : CarConfig) : List Segment → List (Int × Nat)
  | g :: h :: t => ((h.start.toNat : Int), effectiveLimit c g .down) :: pointsDown c (h :: t)
  | _ => []

def segmentPoints (c : CarConfig) (dir : Dir) (segments : List Segment) : List (Int × Nat) :=
  match dir with
  | .up => pointsUp c segments
  | .down => pointsDown c segments

/-- The point of a restriction (R68). -/
def Restriction.point (r : Restriction) : Dir → Int
  | .up => r.start
  | .down => r.stop

/-- A candidate of R68, if its distance ahead lies from 0 to the look-ahead. -/
def candidate (c : CarConfig) (dir : Dir) (fr point : Int) (speed : Nat) (kind : TargetKind) :
    List Target :=
  let dist := ahead dir fr point
  if 0 ≤ dist ∧ dist ≤ (c.lookAhead : Int) then [⟨some point, dist.toNat, speed, kind⟩] else []

/-- A target of speed 0 that R69 holds at the front once the front has passed its point. -/
def heldCandidate (c : CarConfig) (dir : Dir) (fr point : Int) (kind : TargetKind) : List Target :=
  if ahead dir fr point < 0 then [⟨some fr, 0, 0, kind⟩] else candidate c dir fr point 0 kind

/-- The MA_END or NO_AUTHORITY target (R68, R69). -/
def authorityTargets (c : CarConfig) (auth : Option Authority) (dir : Dir) (fr : Int) :
    List Target :=
  match auth with
  | some a =>
    if a.dir = dir then heldCandidate c dir fr a.stop .maEnd else [⟨some fr, 0, 0, .noAuthority⟩]
  | none => [⟨some fr, 0, 0, .noAuthority⟩]

/-- The end of the line in a direction (R68). -/
def lineEnd (p : Profile) : Dir → Int
  | .up => p.lineLength.toNat
  | .down => 0

/-- Every candidate of R68 and target of R69, unfiltered. -/
def candidates (c : CarConfig) (d : Device) (dir : Dir) (fr : Int) : List Target :=
  (segmentPoints c dir d.prs.cur.segments).flatMap (fun p => candidate c dir fr p.1 p.2 .segment)
    ++ (d.aru.current.filter (fun r => r.appliesTo dir)).flatMap
        (fun r => candidate c dir fr (r.point dir) r.limit .restriction)
    ++ authorityTargets c d.aru.auth dir fr
    ++ heldCandidate c dir fr (lineEnd d.prs.cur dir) .lineEnd

/-- The order of kinds at equal speeds (R70, step 2). -/
def TargetKind.rank : TargetKind → Nat
  | .maEnd => 0
  | .noAuthority => 1
  | .lineEnd => 2
  | .restriction => 3
  | .segment => 4

/-- Two targets at one chainage become one (R70, step 2). -/
def mergeTarget (x y : Target) : Target :=
  let kind :=
    if x.kind = .maEnd ∨ y.kind = .maEnd then .maEnd
    else if x.speed < y.speed then x.kind
    else if y.speed < x.speed then y.kind
    else if x.kind.rank ≤ y.kind.rank then x.kind else y.kind
  { x with speed := min x.speed y.speed, kind := kind }

/-- A target into an ordered list without two at one point (R70, steps 2 and 3). All points lie on one
side of the front, so one distance is one chainage. -/
def insertTarget (t : Target) : List Target → List Target
  | [] => [t]
  | x :: xs =>
    if t.distance < x.distance then t :: x :: xs
    else if t.distance = x.distance then mergeTarget x t :: xs
    else x :: insertTarget t xs

/-- The capacity of 8, with the MA end kept (R70, step 4). -/
def capTargets (targets : List Target) : List Target :=
  if targets.length ≤ 8 then targets
  else match (targets.drop 8).find? (fun t => t.kind == .maEnd) with
    | some t => targets.take 7 ++ [t]
    | none => targets.take 8

/-- The target list from the candidates (R70). -/
def targetList (pc : Nat) (all : List Target) : List Target :=
  capTargets ((all.filter (fun t => decide (t.speed < pc))).foldl (fun l t => insertTarget t l) [])

/-! ### Stages 3 to 5: decelerations, curves, results (R72 to R75) -/

/-- The braking range of a target (R72). -/
def brakingRange (dir : Dir) (span : Int × Int) (t : Target) : Int × Int :=
  if t.distance = 0 then span
  else match dir, t.point with
    | .up, some p => (span.1, p)
    | .down, some p => (p, span.2)
    | _, none => span

/-- gd for a target; without a direction of travel it is a free value (R72, log 9). -/
def targetGd (d : Device) (dir : Option Dir) (span : Int × Int) (t : Target) : Nat :=
  match dir with
  | some x =>
    let r := brakingRange x span t
    steepest x (d.prs.cur.segmentsOver r.1 r.2)
  | none => Config.gdWithoutDirection
      ((d.prs.cur.segmentsOver span.1 span.2).map (fun g => g.gradient.toInt))

/-- gd, a_s and a_e for a target (R72, R73). -/
def decelsFor (c : CarConfig) (gd : Nat) : Decels :=
  ⟨gd, effectiveDecel c.aSb (gravityPull gd), effectiveDecel c.aEb (gravityPull gd)⟩

/-- The service curve speed of a target (R74). -/
def serviceCurve (c : CarConfig) (v : Nat) (k : Decels) (t : Target) : Nat :=
  curveSpeed v c.tSb k.service t.distance t.speed

/-- The emergency curve speed of a target (R74). -/
def emergencyCurve (c : CarConfig) (v : Nat) (k : Decels) (t : Target) : Nat :=
  curveSpeed v c.tEb k.emergency t.distance t.speed

/-- What stages 1 to 5 give. -/
structure Curves where
  pc : Nat
  p : Nat
  e : Nat
  targets : List Target
  most : Option Nat
  decels : Option Decels
  deriving DecidableEq, Repr

/-- P, E and the most restrictive target (R75): the nearest whose service curve speed equals P. R81 does
not say where its index begins; counting from 0 is the model's choice (log 48). -/
def resultOf (c : CarConfig) (v pc : Nat) (gdOf : Target → Nat) (targets : List Target) : Curves :=
  let service := targets.map (fun t => serviceCurve c v (decelsFor c (gdOf t)) t)
  let emergency := targets.map (fun t => emergencyCurve c v (decelsFor c (gdOf t)) t)
  let p := leastOf pc service
  let most := service.findIdx? (fun s => s == p)
  ⟨pc, p, leastOf pc emergency, targets, most,
   (most.bind (fun i => targets[i]?)).map (fun t => decelsFor c (gdOf t))⟩

/-- Stages 1 to 5, with the three states of R65 that leave no normal placing. -/
def curvesOf (c : CarConfig) (d : Device) : Curves :=
  match carSpan d with
  | none => ⟨0, 0, 0, [], none, none⟩
  | some span =>
    let dir := travelDir d
    let pc := ceiling c d dir span
    let all := match dir with
      | some x => candidates c d x (spanFront span x)
      | none => [⟨none, 0, 0, .noAuthority⟩]
    resultOf c d.odu.speed pc (targetGd d dir span) (targetList pc all)

/-! ### Stage 6: status and conditions (R76 to R79) -/

/-- A condition with a raise threshold and a clear threshold (R77, R78). -/
def hysteresis (present : Bool) (v limit margin : Nat) : Bool :=
  if limit + margin < v then true else if v ≤ limit then false else present

/-- Whether the authority front lies beyond the authority's end (R79). -/
def authorityPassed (d : Device) : Bool :=
  match d.aru.auth with
  | some a =>
    match frontIn d a.dir with
    | some f => decide (ahead a.dir f a.stop < 0)
    | none => false
  | none => false

/-- The supervision record of an evaluation (R75 to R79, R81). -/
def evaluated (c : CarConfig) (d : Device) : Ssv :=
  let k := curvesOf c d
  let v := d.odu.speed
  let sb := hysteresis d.ssv.overspeedSb v k.p c.sbMargin
  let eb := hysteresis d.ssv.overspeedEb v k.e c.ebMargin
  { modeEvaluated := some d.mdc.mode
    v := v, pc := k.pc, p := k.p, e := k.e
    status := if sb || eb then .intervention else if k.p < v then .warning else .normal
    overspeedSb := sb, overspeedEb := eb
    authority := (travelDir d).isSome && authorityPassed d
    targets := k.targets, mostRestrictive := k.most, decels := k.decels }

/-- At most one event for a condition of the evaluation (R80). -/
def ssvEvent (src : Source) (before after : Bool) (decel : Option Nat) (d : Device) : Device :=
  if after ∧ ¬ before then raiseWith src .none decel d
  else if ¬ after ∧ before then clear src d
  else d

/-- One evaluation (R63): the record, the raises and clears, then the notice of a changed status. R80
leaves the order of the events open; OVERSPEED_SB, OVERSPEED_EB, AUTHORITY is the model's choice
(log 40). -/
def evaluate (d : Device) : Device :=
  match d.mdc.config with
  | none => d
  | some c =>
    if d.mdc.mode.supervised then
      let old := d.ssv
      let new := evaluated c d
      let d1 := ssvEvent .overspeedSb old.overspeedSb new.overspeedSb (some c.aSb)
        { d with ssv := new }
      let d2 := ssvEvent .overspeedEb old.overspeedEb new.overspeedEb none d1
      let d3 := ssvEvent .authority old.authority new.authority none d2
      if old.status = new.status then d3 else notify (statusNotice new) d3
    else d

end Sys2Proof.Machine
end

