-- ==== Sys2Proof/Machine/RadioOps.lean ====
section
/-! DEFINITION. The shared operations of the Valley Radio Unit (chapter 9): the logon, a change of link
state, the shadow judgement, the ACK list, acknowledgements and timeouts, and the transmitter. -/

namespace Sys2Proof.Machine

/-! ### The logon -/

/-- The payload of a LOGON (R154; layout in 11_car_link.md). -/
def logonPayload (d : Device) : List Byte :=
  [(match d.mdc.config with
    | some c => BitVec.ofNat 8 c.carIdentity
    | none => 0#8)]
    ++ bytes32 d.prs.cur.version ++ bytes32 (d.prs.cur.digest.getD 0#32)

/-- The oldest entry that is not a LOGON leaves with REPORT_UNDELIVERED (R163). -/
def dropOldestReport (d : Device) : Device :=
  match d.vru.outbox.find? (fun e => e.kind != .logon) with
  | some e => notify (.reportUndelivered e.seq e.kind) (dropEntry e.seq d)
  | none => d

/-- Room made for a LOGON in a full outbox (R163). -/
def roomForLogon (d : Device) : Device :=
  if d.vru.outbox.length < outboxRoom then d
  else if d.vru.outbox.any (fun e => e.queuedOf .positionReport) then dropQueuedReport d
  else dropOldestReport d

/-- The LOGON that replaces another in its slot (R154). -/
def replaceLogon (payload : List Byte) (e : OutEntry) (d : Device) : Device :=
  let d1 := mapEntry e.seq (fun x =>
    { x with payload := payload, awaiting := false, sendCount := 0, lastSend := none, due := false,
             timeout := none }) d
  { d1 with vru := { d1.vru with tx := forgetSending e.seq d1.vru.tx } }

/-- VRU forms a LOGON entry and starts the logon timer (R154). -/
def queueLogon (d : Device) : Device :=
  let payload := logonPayload d
  let d1 := match d.vru.outbox.find? (fun e => e.kind == .logon) with
    | some e => replaceLogon payload e d
    | none => appendEntry .logon payload (roomForLogon d)
  { d1 with vru := { d1.vru with
      logonTimer := some ⟨d.now, Config.sec Config.logonSeconds⟩
      lastLogon := some (d.prs.cur.version, d.prs.cur.digest) } }

/-- The LOGON entry leaves and the logon timer stops (R152). -/
def endLogon (d : Device) : Device :=
  let d1 := match d.vru.outbox.find? (fun e => e.kind == .logon) with
    | some e => dropEntry e.seq d
    | none => d
  { d1 with vru := { d1.vru with logonTimer := none } }

/-! ### Link state -/

/-- The acknowledgement timeout of the configuration, started now (R165). -/
def ackTimer (d : Device) : Option Timer :=
  d.mdc.config.map (fun c => ⟨d.now, Config.sec c.ackTimeout⟩)

/-- The report interval timer, started now (R162). -/
def reportIntervalTimer (d : Device) : Option Timer :=
  d.mdc.config.map (fun c => ⟨d.now, Config.sec c.reportInterval⟩)

/-- Into ONLINE (R152). -/
def enterOnline (d : Device) : Device :=
  let d1 := endLogon d
  { d1 with vru := { d1.vru with
      silence := some d.now
      reportTimer := reportIntervalTimer d
      outbox := d1.vru.outbox.map (fun e =>
        if e.awaiting && e.kind != .logon then { e with timeout := ackTimer d } else e) } }

/-- Into OFFLINE (R152). -/
def enterOffline (d : Device) : Device :=
  { d with vru := { d.vru with
      outbox := [], logonTimer := none, silence := none, reportTimer := none
      tx := d.vru.tx.map (fun j => { j with entry := none }) } }

/-- Out of ONLINE (R152). -/
def leaveOnline (d : Device) : Device :=
  { d with vru := { d.vru with
      silence := none, reportTimer := none
      outbox := d.vru.outbox.map (fun e => { e with timeout := none }) } }

/-- The actions at the change into a state (R152). -/
def enterLink (state : LinkState) (d : Device) : Device :=
  match state with
  | .offline => enterOffline d
  | .loggingOn | .lost => queueLogon d
  | .online => enterOnline d
  | .refused => endLogon d

/-- Whether RADIO_LOSS is present in a link state (R153). -/
def LinkState.radioLoss : LinkState → Bool
  | .lost | .refused => true
  | _ => false

/-- The actions of a change of link state: those at the change into it and those at the change out of
ONLINE (R152). -/
def linkActions (state : LinkState) (d : Device) : Device :=
  let d1 := enterLink state { d with vru := { d.vru with link := state } }
  if d.vru.link = .online ∧ state ≠ .online then leaveOnline d1 else d1

/-- A change of link state (R152, R153): the actions, the notice, RADIO_LOSS, the RADIO cause. The
notice comes behind the actions, as file 95 lists them (LINK_STATE_CHANGE; log 37). -/
def linkTo (state : LinkState) (event : LinkEvent) (d : Device) : Device :=
  reportCauses (setCondition .radioLoss state.radioLoss
    (notify (.radioLink state event) (linkActions state d)))

/-- Whether configuration and profile are both valid. -/
def bothValid (d : Device) : Bool := d.mdc.config.isSome && d.prs.valid

/-- A successful commit (R152). -/
def linkCommit (d : Device) : Device :=
  match d.vru.link with
  | .offline => if bothValid d then linkTo .loggingOn .bothValid d else d
  | _ => linkTo .loggingOn .commit d

/-- The silence timer expires: the link becomes LOST (R155). -/
def silenceExpires (d : Device) : Device :=
  if d.vru.link = .online ∧ d.vru.silence.isSome then linkTo .lost .silence d else d

/-- Whether the silence timer has reached the limit in force. -/
def silenceOver (d : Device) : Bool :=
  match d.vru.silence, silenceLimit d with
  | some since, some limit => decide (Config.sec limit ≤ elapsed d since)
  | _, _ => false

/-- The shadow judgement (R156). -/
def judgeShadow (d : Device) : Device :=
  let now := frontInShadow d
  if now = d.vru.shadow then d
  else
    let d1 := { d with vru := { d.vru with shadow := now } }
    if silenceOver d1 then silenceExpires d1 else d1

/-! ### Acknowledgements -/

/-- The ACK of a telegram enters the ACK list, if there is room (R160). -/
def pushAck (seq : Byte) (result : Result) (d : Device) : Device :=
  if d.vru.ackList.length < ackRoom then
    { d with vru := { d.vru with ackList := d.vru.ackList ++ [(seq, result)] } }
  else d

/-- A telegram's number and result enter the duplicate window (R159). -/
def enterWindow (seq : Byte) (result : Result) (d : Device) : Device :=
  let w := if d.vru.dupWindow.length < windowRoom then d.vru.dupWindow else d.vru.dupWindow.drop 1
  { d with vru := { d.vru with dupWindow := w ++ [(seq, result)] } }

/-- One number of an UPLINK_ACK (R164). -/
def acknowledge (seq : Byte) (d : Device) : Device :=
  match d.vru.outbox.find? (fun e => e.seq == seq) with
  | some e => if e.awaiting ∧ e.kind ≠ .logon then dropEntry seq d else d
  | none => d

/-- The expiry of an entry's acknowledgement timeout (R165). -/
def ackTimeout (seq : Byte) (d : Device) : Device :=
  match d.vru.outbox.find? (fun e => e.seq == seq) with
  | some e =>
    if e.timeout.isSome then
      if e.sendCount < 3 then mapEntry seq (fun x => { x with due := true, timeout := none }) d
      else notify (.reportUndelivered e.seq e.kind) (dropEntry seq d)
    else d
  | none => d

/-! ### The transmitter (R166) -/

/-- The entry next to be sent in a link state: QUEUED before due. -/
def nextEntry (link : LinkState) (outbox : List OutEntry) : Option OutEntry :=
  match link with
  | .online =>
    match outbox.find? (fun e => !e.awaiting) with
    | some e => some e
    | none => outbox.find? (·.due)
  | .loggingOn | .lost => outbox.find? (fun e => e.kind == .logon && (!e.awaiting || e.due))
  | .offline | .refused => none

/-- The car identity that a telegram given now carries. -/
def identityByte (d : Device) : Byte :=
  match d.mdc.config with
  | some c => BitVec.ofNat 8 c.carIdentity
  | none => 0#8

/-- An entry is given to the modem (R166). A timeout that runs on an entry due for sending again stops
here, and starts again at the end of the sending (R165): the model's choice (log 44). -/
def giveEntry (e : OutEntry) (d : Device) : Device :=
  let d1 := mapEntry e.seq (fun x =>
    { x with awaiting := true, sendCount := min 255 (x.sendCount + 1), due := false,
             timeout := none }) d
  { d1 with vru := { d1.vru with
      tx := some ⟨telegramBytes (identityByte d) (uplinkKindByte e.kind) e.seq e.payload,
                  some e.seq⟩ } }

/-- While the transmitter is idle, the first eligible telegram is given to it. -/
def radioPump (d : Device) : Device :=
  match d.vru.tx with
  | some _ => d
  | none =>
    match d.vru.ackList with
    | a :: rest =>
      { d with vru := { d.vru with
          ackList := rest
          tx := some ⟨telegramBytes (identityByte d) ackKindByte a.1 [resultByte a.2], none⟩ } }
    | [] =>
      match nextEntry d.vru.link d.vru.outbox with
      | some e => giveEntry e d
      | none => d

/-- The end of a telegram's last byte (R165, R166). -/
def telegramEnd (d : Device) : Device :=
  match d.vru.tx with
  | none => d
  | some j =>
    let d1 := { d with vru := { d.vru with tx := none } }
    match j.entry with
    | none => d1
    | some seq => mapEntry seq (fun x =>
        { x with lastSend := some d.now,
                 timeout := if d.vru.link = .online ∧ x.kind ≠ .logon then ackTimer d else none }) d1

end Sys2Proof.Machine
end

