-- ==== Sys2Proof/Machine/AuthorityOps.lean ====
section
/-! DEFINITION. The operations of the Authority and Restriction Unit (chapter 10): each takes the
payload of a telegram whole and returns a result code; and the taking of a downlink telegram
(R155, R157 to R160), which calls them. -/

namespace Sys2Proof.Machine

/-! ### The movement authority -/

/-- The service stopping distance for an authority front in a direction (R173). -/
def serviceStop (c : CarConfig) (d : Device) (dir : Dir) (f : Int) : Nat :=
  let p := d.prs.cur
  let g := match p.segmentAt f with
    | some g => some g
    | none => if f < 0 then p.segments.head? else p.segments.getLast?
  let gd := match g with
    | some x => x.downhill dir
    | none => 0
  stoppingDistance d.odu.speed c.tSb (effectiveDecel c.aSb (gravityPull gd))

/-- A chainage moved by a distance in a direction. -/
def movedBy (dir : Dir) (x : Int) (dist : Nat) : Int :=
  match dir with
  | .up => x + dist
  | .down => x - dist

/-- The nearer of two ends (R173). -/
def nearerEnd (dir : Dir) (a b : Nat) : Nat :=
  match dir with
  | .up => min a b
  | .down => max a b

/-- A chainage held in the range of an authority's end (R171). -/
def endChainage (x : Int) : Nat := min 16777215 x.toNat

/-- The authority changes; a change between held and none is told to the Odometry Unit (R56). -/
def setAuthority (auth : Option Authority) (timer : Option Timer) (d : Device) : Device :=
  rollawayTest { d with aru := { d.aru with auth := auth, timer := timer } }

/-- AUTHORITY_GRANT (R172). -/
def takeGrant (payload : List Byte) (d : Device) : Device × Result :=
  let g := grantOf payload
  match g.valid, g.dir with
  | true, some dir =>
    if d.aru.selDir ≠ some dir then (d, .wrongDirection)
    else match frontIn d dir with
      | none => (d, .noPosition)
      | some f =>
        if ahead dir f g.stop < 0 then (d, .behindCar)
        else (setAuthority (some ⟨g.identity, dir, g.stop, g.expiry, false⟩)
               (g.expiry.map (fun e => ⟨d.now, Config.sec e⟩)) d, .applied)
  | _, _ => (d, .invalid)

/-- Whether the car can stop on the service curve before an end (R173). -/
def canStop (d : Device) (dir : Dir) (stop : Nat) : Bool :=
  match frontIn d dir, d.mdc.config with
  | some f, some c => decide (0 ≤ ahead dir (movedBy dir f (serviceStop c d dir f)) stop)
  | _, _ => false

/-- AUTHORITY_SHORTEN (R173). -/
def takeShorten (payload : List Byte) (d : Device) : Device × Result :=
  match d.aru.auth with
  | none => (d, .stopPossible)
  | some a =>
    let stop := nearerEnd a.dir a.stop (field payload 0 3)
    let d1 := { d with aru := { d.aru with auth := some { a with stop := stop } } }
    (d1, if canStop d1 a.dir stop then .stopPossible else .stopNotPossible)

/-- A withdrawal, by telegram or by the expiry timer (R174). -/
def withdrawAuthority (d : Device) : Device :=
  match d.aru.auth with
  | none => d
  | some a =>
    if d.odu.standstill then setAuthority none none d
    else match frontIn d a.dir, d.mdc.config with
      | some f, some c =>
        let reach := endChainage (movedBy a.dir f (serviceStop c d a.dir f))
        { d with aru := { d.aru with
            auth := some { a with stop := nearerEnd a.dir a.stop reach, expiry := none,
                                  withdrawn := true }
            timer := none } }
      | _, _ => setAuthority none none d

/-! ### Restrictions -/

/-- The current entry of an identity. -/
def restrictionFor (set : List Restriction) (identity : Nat) : Option Restriction :=
  set.find? (fun r => r.identity == identity)

/-- An entry into the current set, in identity order, in place of one of its identity. -/
def putRestriction (r : Restriction) : List Restriction → List Restriction
  | [] => [r]
  | x :: xs =>
    if r.identity < x.identity then r :: x :: xs
    else if r.identity = x.identity then r :: xs
    else x :: putRestriction r xs

/-- BOTH covers all; UP and DOWN cover themselves (R175). -/
def AppliesTo.covers (a b : AppliesTo) : Bool := a == .both || a == b

/-- The union of two applies-to fields (R176). -/
def appliesUnion (a b : AppliesTo) : AppliesTo := if a = b then a else .both

/-- The first comparison of R176: a tightening of the current entry. -/
def tightens (new old : Restriction) : Bool :=
  decide (new.start ≤ old.start) && decide (old.stop ≤ new.stop) && decide (new.limit ≤ old.limit)
    && AppliesTo.covers new.applies old.applies

/-- The second comparison of R176: a relaxation. -/
def relaxes (new old : Restriction) : Bool := tightens old new

/-- The interim entry of a mixed change (R176). -/
def interimOf (new old : Restriction) : Restriction :=
  { identity := new.identity, start := min new.start old.start, stop := max new.stop old.stop,
    limit := min new.limit old.limit, applies := appliesUnion new.applies old.applies,
    fromValley := true }

/-- The identity a staged change names. -/
def Staged.identity : Staged → Nat
  | .final r => r.identity
  | .lift i => i

/-- The staged changes of other identities. -/
def unstage (identity : Nat) (staged : List Staged) : List Staged :=
  staged.filter (fun s => s.identity != identity)

/-- The room of each restriction set (R175). -/
def setRoom : Nat := 16

/-- A tightening is put in force and removes the staged change of its identity (R176). -/
def tighten (r : Restriction) (d : Device) : Device :=
  { d with aru := { d.aru with
      current := putRestriction r d.aru.current
      staged := unstage r.identity d.aru.staged } }

/-- A change is staged (R177), answering `ok`, or FULL. -/
def stage (s : Staged) (ok : Result) (d : Device) : Device × Result :=
  let rest := unstage s.identity d.aru.staged
  if rest.length < setRoom then
    ({ d with aru := { d.aru with staged := rest ++ [s] } }, ok)
  else (d, .full)

/-- RESTRICTIONS_PENDING, judged against the pending set from before the telegram (R177, log 17). -/
def noticePending (wasEmpty : Bool) (x : Device × Result) : Device × Result :=
  if wasEmpty ∧ x.1.aru.staged ≠ [] then
    (notify (.restrictionsPending x.1.aru.staged.length) x.1, x.2)
  else x

/-- RESTRICTION_SET (R175, R176, R178). -/
def takeRestriction (payload : List Byte) (d : Device) : Device × Result :=
  match restrictionOf payload with
  | none => (d, .invalid)
  | some r =>
    noticePending d.aru.staged.isEmpty
      (match restrictionFor d.aru.current r.identity with
       | none =>
         if d.aru.current.length < setRoom then (tighten r d, .applied)
         else (setCondition .restrictionFull true d, .full)
       | some old =>
         if tightens r old then (tighten r d, .applied)
         else if relaxes r old then stage (.final r) .staged d
         else stage (.final r) .interim (tighten (interimOf r old) d))

/-- RESTRICTION_LIFT (R175, R177). -/
def takeLift (payload : List Byte) (d : Device) : Device × Result :=
  let identity := field payload 0 2
  if inRange 1 32767 identity then
    match restrictionFor d.aru.current identity with
    | some _ => noticePending d.aru.staged.isEmpty (stage (.lift identity) .staged d)
    | none => (d, .applied)
  else (d, .invalid)

/-- RESTRICTION_FULL ends when the current set has room (R178). -/
def judgeRoom (d : Device) : Device :=
  if d.aru.current.length < setRoom then setCondition .restrictionFull false d else d

/-- A staged change applied to the current set (R179). -/
def applyStaged (set : List Restriction) : Staged → List Restriction
  | .final r => set.map (fun x => if x.identity = r.identity then r else x)
  | .lift i => set.filter (fun x => x.identity != i)

/-- The update event (R179). -/
def updateRestrictions (d : Device) : Device :=
  judgeRoom { d with aru := { d.aru with
    current := d.aru.staged.foldl applyStaged d.aru.current
    staged := [] } }

/-! ### Stop orders -/

/-- The stop order flag takes a value; VALLEY_STOP follows it (R181). -/
def setStopOrder (on : Bool) (d : Device) : Device :=
  setCondition .valleyStop on { d with aru := { d.aru with stopOrder := on } }

/-! ### Downlink -/

/-- The answer to a LOGON_ACCEPT (R152). -/
def logonAnswer (result : Byte) (d : Device) : Device :=
  if d.vru.link = .loggingOn ∨ d.vru.link = .lost then
    if result = 0#8 then linkTo .online .logonOk d
    else if result = 1#8 then linkTo .refused .profileMismatch d
    else d
  else d

/-- The Authority and Restriction Unit takes a telegram of an acknowledged kind. -/
def handToAru (kind : DownKind) (payload : List Byte) (d : Device) : Device × Result :=
  match kind with
  | .authorityGrant => takeGrant payload d
  | .authorityShorten => takeShorten payload d
  | .authorityWithdraw => (withdrawAuthority d, .applied)
  | .restrictionSet => takeRestriction payload d
  | .restrictionLift => takeLift payload d
  | .stopOrder => (setStopOrder true d, .applied)
  | .stopRelease => (setStopOrder false d, .applied)
  | _ => (d, .invalid)

/-- A telegram of an acknowledged kind, past R158: length, duplicate, then the unit (R159, R160). -/
def takeAcknowledged (kind : DownKind) (t : Telegram) (d : Device) : Device :=
  if kind.length ≠ some t.payload.length then pushAck t.seq .badTelegram d
  else match d.vru.dupWindow.find? (fun w => w.1 == t.seq) with
    | some w => pushAck t.seq w.2 d
    | none =>
      let r := handToAru kind t.payload d
      pushAck t.seq r.2 (enterWindow t.seq r.2 r.1)

/-- What a telegram of each kind does once R158 lets it through. -/
def actOn (kind : DownKind) (t : Telegram) (d : Device) : Device :=
  match kind with
  | .unknown => d
  | .logonAccept => if t.payload.length = 1 then logonAnswer (t.payload.getD 0 0#8) d else d
  | .uplinkAck =>
    if t.payload.length = 3 then (ackedNumbers t.payload).foldl (fun x n => acknowledge n x) d else d
  | .poll => if t.payload.length = 0 then callPosition d else d
  | _ => takeAcknowledged kind t d

/-- Whether a telegram is addressed to the car (R157). -/
def addressed (d : Device) (t : Telegram) : Bool :=
  match d.mdc.config with
  | some c => t.identity.toNat == c.carIdentity || t.identity.toNat == 255
  | none => false

/-- A valid telegram restarts the silence timer in ONLINE (R155). -/
def restartSilence (d : Device) : Device :=
  if d.vru.link = .online then { d with vru := { d.vru with silence := some d.now } } else d

/-- Whether R158 lets a kind through in a link state. -/
def letThrough (link : LinkState) (kind : DownKind) : Bool := link == .online || kind.takenAlways

/-- A valid telegram is taken (R155, R157, R158). -/
def takeValid (kind : DownKind) (t : Telegram) (d : Device) : Device :=
  if addressed d t then
    let d1 := restartSilence d
    if letThrough d1.vru.link kind then actOn kind t d1 else d1
  else d

/-- A telegram completed and valid: nothing is left in assembly, and it is taken. -/
def takeTelegram (kind : DownKind) (t : Telegram) (d : Device) : Device :=
  takeValid kind t { d with vru := { d.vru with rx := none } }

/-- A complete telegram: taken if its CRC fits, else discarded (R157). -/
def takeComplete (frame : List Byte) (d : Device) : Device :=
  if crc16Fits frame then
    takeValid (downKindOf (telegramOf frame).1) (telegramOf frame).2 d
  else d

/-- The assembly left after some bytes: the bytes of an unfinished telegram or frame with the time of
its start byte (R157, R183). -/
def assemblyAfter (before : Option (List Byte × Nat)) (bytes rest : List Byte) (now : Nat) :
    Option (List Byte × Nat) :=
  if rest = [] then none
  else match before with
    | some (old, since) => if rest = old ++ bytes then some (rest, since) else some (rest, now)
    | none => some (rest, now)

/-- The bytes in assembly. -/
def inAssembly (rx : Option (List Byte × Nat)) : List Byte :=
  match rx with
  | some (bytes, _) => bytes
  | none => []

end Sys2Proof.Machine
end

