-- ==== Sys2Proof/Machine/LinkOps.lean ====
section
/-! DEFINITION. The Car Link Port (chapter 11): a valid frame and the silence timer (R183, R184), a
request and its reply (R185), the transmitter (R186), the long queries (R187), and what closes every
command: the three transmitters that choose again (log 5). -/

namespace Sys2Proof.Machine

/-! ### Frames -/

/-- The link silence timer as a valid frame leaves it (R184). -/
def linkTimer (d : Device) : Option Timer :=
  match d.mdc.config with
  | some c => if c.linkSilence = 0 then none else some ⟨d.now, Config.ms c.linkSilence⟩
  | none => none

/-- Nothing is left in assembly: a frame is complete (R183), or the 50 ms limit has come. -/
def dropFrame (d : Device) : Device := { d with clp := { d.clp with rx := none } }

/-- A valid frame is heard: the silence timer starts from 0 and LINK_SILENT is cleared (R184). -/
def hearFrame (d : Device) : Device :=
  setCondition .linkSilent false { d with clp := { d.clp with silence := linkTimer d } }

/-- A valid frame, complete: nothing is left in assembly, and it is heard (R183, R184). -/
def validFrame (d : Device) : Device := hearFrame (dropFrame d)

/-- A reply joins the reply list (R185). -/
def reply (tag : Byte) (reason : Option Reason) (data : ReplyData) (d : Device) : Device :=
  { d with clp := { d.clp with
      replies := d.clp.replies ++ [⟨tag, reason, data, d.clp.restarting⟩] } }

/-- What a block answers a request with: the device after it, OK or a reason, and the data. -/
structure Answered where
  dev : Device
  reason : Option Reason
  data : ReplyData
  deriving DecidableEq, Repr

/-- A refusal: the device as it was, and the reason. -/
def refuse (r : Reason) (d : Device) : Answered := ⟨d, some r, .nothing⟩

/-- An acceptance without data. -/
def accept (d : Device) : Answered := ⟨d, none, .nothing⟩

/-- The first failing check of an ordered list of checks, each with its reason. -/
def firstFailure : List (Bool × Reason) → Option Reason
  | [] => none
  | (ok, r) :: rest => if ok then firstFailure rest else some r

/-- A request judged by ordered checks (the checks of its rule), then carried out. -/
def judged (checks : List (Bool × Reason)) (run : Device → Answered) (d : Device) : Answered :=
  match firstFailure checks with
  | some r => refuse r d
  | none => run d

/-- A frame that has been heard is judged (R185): without reply once a RESTART has been accepted or while
the reply list is full; BAD_LENGTH; else the owning block's answer. -/
def answerFrame (q : Req) (body : Device → Answered) (d : Device) : Device :=
  if d.clp.restarting ∨ replyRoom ≤ d.clp.replies.length then d
  else if q.lengthFits then
    let a := body d
    reply q.tag a.reason a.data a.dev
  else reply q.tag (some .badLength) .nothing d

/-- A valid frame with a request kind (R183 to R185). -/
def request (q : Req) (body : Device → Answered) (d : Device) : Device :=
  answerFrame q body (validFrame d)

/-- The end of a frame's last byte frees the transmitter (R186). -/
def freeTransmitter (d : Device) : Device := { d with clp := { d.clp with tx := none } }

/-- While the transmitter is idle it is given the oldest reply, or else the oldest notice (R186). -/
def linkPump (d : Device) : Device :=
  match d.clp.tx with
  | some _ => d
  | none =>
    match d.clp.replies with
    | r :: rest => { d with clp := { d.clp with replies := rest, tx := some (.reply r) } }
    | [] =>
      match d.clp.notices with
      | n :: rest => { d with clp := { d.clp with notices := rest, tx := some (.notice n) } }
      | [] => d

/-- What closes every command: the door bus begins its next transaction (R142), the radio port and the
car link choose what to send next (R166, R186). It runs behind the reply, so an idle transmitter is given
the reply before a notice that the same request queued; R186 allows either, and this is the model's
choice (log 52). -/
def finish (d : Device) : Device := linkPump (radioPump (busPump d))

/-- During CUTOFF the part takes nothing but the supply watch's samples (R13, R121). -/
def whenUp (f : Device → Device) (d : Device) : Device :=
  if d.bau.watch = .cutoff then d else finish (f d)

/-- One microsecond passes (log 1). -/
def tick (d : Device) : Device := { d with now := d.now + 1 }

/-! ### Long queries (R187) -/

/-- One part of the snapshot in place. -/
def answerPart (kind : QueryKind) (n : Nat) (d : Device) : Answered :=
  match d.clp.snapshot with
  | none => refuse .notFound d
  | some s =>
    if s.kind = kind then
      match (partsOf s)[n]? with
      | some bytes => ⟨d, none, .part n (partsOf s).length bytes⟩
      | none => refuse .notFound d
    else refuse .notFound d

/-- A long query: part 0 takes the snapshot, a later part reads it. -/
def query (kind : QueryKind) (part : Byte) (contents : Device → Contents) (d : Device) : Answered :=
  if part = 0#8 then
    answerPart kind 0 { d with clp := { d.clp with snapshot := some (contents d) } }
  else answerPart kind part.toNat d

/-! ### The contents of the queries -/

def bogieView (d : Device) (which : Bogie) : BogieView :=
  ⟨(d.odu.bogies.get which).state, bogiePlace d which⟩

/-- R62. -/
def odometryView (d : Device) : OdometryView :=
  { known := d.odu.known, position := d.odu.position, u := uncertainty d,
    conflict := d.odu.conflict, clamp := d.odu.clamp, lastMarker := d.odu.lastMarker,
    dir := d.odu.dir, travelDir := travelDir d, speed := d.odu.speed,
    standstill := d.odu.standstill, source := d.odu.source,
    bogies := ⟨bogieView d .a, bogieView d .b⟩, calib := d.odu.calib }

/-- The fields of R88. -/
def entryView (e : Entry) : EntryView :=
  { src := e.src, state := e.state, cond := e.cond, level := e.level, decel := e.shownDecel,
    raisedAt := e.raisedAt, cfgLevel := if e.src.carriesLevel then none else some e.cfgLevel,
    mode := e.mode }

/-- R103. -/
def demandsView (d : Device) : DemandsView :=
  { entries := d.bdt.entries.map entryView, applied := d.bdt.applied, governing := d.bdt.governing,
    hold := d.bdt.hold, svcDecel := d.bdt.svcDecel }

def channelView (c : ChannelRec) : ChannelView := ⟨c.commanded, c.released, c.timer.isSome, c.fault⟩

def runView (d : Device) (r : TestRun) : RunView :=
  ⟨r.phase, r.timer.map (timeLeft d), r.movement, r.guard⟩

/-- R123. -/
def testView (d : Device) : TestView :=
  { test := d.bau.test, run := d.bau.run.map (runView d),
    channels := ⟨channelView d.bau.channels.a, channelView d.bau.channels.b⟩,
    blend := d.bau.blend, ebLine := d.bau.ebLine, edbDemand := d.bau.edbDemand,
    traction := d.bau.traction, watch := d.bau.watch, reading := d.bau.reading }

/-- The age of a good report in ms, up to 65,535 (R148). -/
def reportAge (d : Device) (takenAt : Nat) : Nat := min 65535 (elapsed d takenAt / 1000)

def doorView (d : Device) (n : DoorNo) : DoorView :=
  let r := d.dcu.doors.get n
  let l := d.dbm.links.get n
  { state := r.state, order := r.order, attempts := r.attempts,
    dwellLeft := r.dwell.map (timeLeft d), last := r.last, link := l.link, misses := l.misses,
    missFlag := l.missFlag, waitFlag := l.waitFlag,
    lastGood := l.last.map (fun x => (x.1, reportAge d x.2)) }

/-- R141. -/
def doorsView (d : Device) : DoorsView :=
  { doors := ⟨doorView d .d1, doorView d .d2, doorView d .d3, doorView d .d4⟩,
    release := d.dcu.release, doorHold := d.bdt.present .doorHold,
    doorMoving := d.bdt.present .doorMoving, passengerAlarm := d.bdt.present .passengerAlarm }

def outView (d : Device) (e : OutEntry) : OutView :=
  ⟨e.seq, e.kind, e.awaiting, e.sendCount, e.lastSend.map (elapsed d)⟩

/-- R168. -/
def radioView (d : Device) : RadioView :=
  { link := d.vru.link, carrier := d.pins.carrier,
    identity := d.mdc.config.map (·.carIdentity), lastLogon := d.vru.lastLogon,
    silenceElapsed := d.vru.silence.map (elapsed d), limit := silenceLimit d,
    shadow := d.vru.shadow, logonLeft := d.vru.logonTimer.map (timeLeft d),
    reportLeft := d.vru.reportTimer.map (timeLeft d), outbox := d.vru.outbox.map (outView d),
    dupWindow := d.vru.dupWindow, ackCount := d.vru.ackList.length,
    seqCounter := d.vru.seqCounter, sending := d.vru.tx.isSome }

/-- R182. -/
def authorityView (d : Device) : AuthorityView :=
  ⟨d.aru.selDir, d.aru.auth, d.aru.timer.map (timeLeft d), d.aru.stopOrder⟩

def restrictionsView (d : Device) : RestrictionsView := ⟨d.aru.current, d.aru.staged⟩

/-- R188. -/
def statusView (d : Device) : StatusView :=
  { mode := d.mdc.mode, causePosition := d.mdc.causePosition, causeRadio := d.mdc.causeRadio,
    configValid := d.mdc.config.isSome, profileValid := d.prs.valid,
    orientation := d.mdc.orientation, applied := d.bdt.applied, governing := d.bdt.governing,
    hold := d.bdt.hold, standstill := d.odu.standstill, link := d.vru.link,
    allSecured := allSecured d, testResult := d.bau.test.result, noticesLost := d.clp.lost }

/-- GET_STATUS: forming the reply clears NOTICES_LOST (R188). -/
def askStatus (d : Device) : Answered :=
  ⟨{ d with clp := { d.clp with lost := false } }, none, .status (statusView d)⟩

end Sys2Proof.Machine
end

