-- ==== Sys2Proof/Machine/StartUp.lean ====
section
/-! DEFINITION. The resets and start-up (R13 to R15, R35, R60, R61, R104, R121, R122, R140, R151, R167,
R182, R190): the blank records, the de-energised part in CUTOFF, the cold start, the warm restart, and
the supply watch (R120). -/

namespace Sys2Proof.Machine

/-! ### Initial records -/

/-- A row of the reaction table at its default (R84, R86). -/
def defaultEntry (src : Source) : Entry :=
  { src := src, state := .idle, cond := false, carried := .none, decel := none, raisedAt := none,
    cfgLevel := src.defaultLevel, mode := src.defaultMode }

/-- An entry at a reset, its reaction kept (R104). -/
def resetEntry (e : Entry) : Entry :=
  if e.src = .mode then
    { e with state := .active, cond := true, carried := .emergency, decel := none,
             raisedAt := some .unplaced }
  else { e with state := .idle, cond := false, carried := .none, decel := none, raisedAt := none }

/-- The table at a reset (R104). -/
def resetTable (entries : List Entry) : Bdt :=
  { entries := entries.map resetEntry, applied := .emergency, governing := some .mode, hold := true,
    svcDecel := 0, handleFaulty := false }

def emptyProfile : Profile := ⟨0#24, 0#32, none, [], [], []⟩
def emptyLoad : LoadArea := ⟨0#24, 0#32, [], [], []⟩
def emptyPrs : Prs := ⟨emptyProfile, false, emptyLoad⟩

/-- R60. -/
def blankOdu : Odu :=
  { known := false, position := 0, uBase := 0, wheelRun := 0, conflict := false, clamp := false,
    lastMarker := none, dir := none, bogies := ⟨meshStart .offRack, meshStart .offRack⟩,
    source := .wheel, calib := none, window := none, remainder := 0, sampleAcc := 0,
    dists := [0, 0, 0, 0], speed := 0, quiet := 0, edgeSince := false, standstill := false,
    reverseAcc := 0, anyAcc := 0 }

/-- What a warm restart keeps of the Odometry Unit (R61). -/
def keptOdu (o : Odu) : Odu :=
  { blankOdu with
    known := o.known, position := o.position, uBase := o.uBase, wheelRun := o.wheelRun,
    conflict := o.conflict, clamp := o.clamp, lastMarker := o.lastMarker, calib := o.calib,
    remainder := o.remainder }

/-- A channel at start-up, its feedback read from the contact (R122). -/
def startChannel (released : Bool) : ChannelRec :=
  ⟨.springApplied, released, none, false, false, .off⟩

def startChannels (p : Pins) : Pair ChannelRec :=
  ⟨startChannel p.releasedA, startChannel p.releasedB⟩

def emptyTest : TestRec := ⟨.none, none, none, none, none, 0⟩

/-- A test running at a warm restart ends ABORTED with RESTART (R113, R14). That no TEST_RESULT follows
STARTED is the model's choice (log 46). -/
def restartedTest (b : Bau) : TestRec :=
  match b.run with
  | some _ => { b.test with result := .aborted, endCause := some .restart,
                            movement := movementAfter b.test b.run }
  | none => b.test

def blankDoor : DoorRec := ⟨.unknown, .lock, 0, none, none⟩
def blankDcu : Dcu := ⟨⟨blankDoor, blankDoor, blankDoor, blankDoor⟩, none⟩
def blankLink : LinkRec := ⟨.unknown, 0, false, false, none⟩
def blankDbm : Dbm := ⟨⟨blankLink, blankLink, blankLink, blankLink⟩, .d1, none⟩

/-- The radio unit after a reset (R167). R168 does not say what the last LOGON carried while none has been
formed since; none, after every reset, is the model's choice (log 53). -/
def blankVru : Vru :=
  { link := .offline, logonTimer := none, silence := none, shadow := false, reportTimer := none,
    outbox := [], seqCounter := 0#8, dupWindow := [], ackList := [], tx := none, rx := none,
    lastLogon := none }

def blankAru : Aru := ⟨none, none, none, [], [], false⟩
def blankClp : Clp := ⟨none, [], [], false, none, none, none, false⟩

def blankMdc : Mdc :=
  { mode := .preparation, causePosition := true, causeRadio := true, config := none,
    orientation := none, startUpHold := true, wakeTimer := none, lastCause := .powerOn,
    supplyFlag := false }

/-- The Brake Actuation Unit with every output de-energised (R121, R122). -/
def blankBau (p : Pins) : Bau :=
  { channels := startChannels p, blend := false, ebLine := true, edbDemand := 0, traction := false,
    test := emptyTest, run := none, watch := .cutoff, reading := 0, firstSample := false,
    resetCause := .powerOn }

/-- The part without supply: every block at its initial state, the watch in CUTOFF (R121). -/
def blankDevice (now : Nat) (pins : Pins) : Device :=
  { now := now, startAt := now, pins := pins, mdc := blankMdc, prs := emptyPrs, odu := blankOdu,
    ssv := ssvQuiet, bdt := resetTable (allSources.map defaultEntry), bau := blankBau pins,
    dcu := blankDcu, dbm := blankDbm, vru := blankVru, aru := blankAru, clp := blankClp }

/-! ### Start-up -/

/-- STARTED (R13). -/
def startedNotice (d : Device) : Device := notify (.started d.mdc.lastCause d.mdc.supplyFlag) d

/-- The conditions that the blocks find present at start-up (R60, R96, R104, R140). R85 leaves their
order open; POSITION, PLUNGER, DOOR_HOLD is the model's choice (log 41). -/
def startConditions (d : Device) : Device :=
  let d1 := setCondition .position (positionDoubtful d) d
  let d2 := setCondition .plunger d1.pins.plunger d1
  setCondition .doorHold (!allSecured d2) d2

/-- The watch state judged from the first sample (R120): a reading below 22.0 V is LOW. -/
def judgeFirstSample (reading : Nat) (d : Device) : Device :=
  let d1 := { d with bau := { d.bau with reading := reading, firstSample := false } }
  if reading < Config.normalFrom then
    notify (.supply .low reading)
      (setCondition .supplyLow true { d1 with bau := { d1.bau with watch := .low } })
  else { d1 with bau := { d1.bau with watch := .normal } }

/-- The record of a cold start (R15). -/
def coldRecord (cause : ResetCause) (m : Mdc) : Mdc :=
  { m with lastCause := cause, supplyFlag := cause == .supply }

/-- Start-up after a power-on or supply reset (R13), at the sample that ends CUTOFF. R85 leaves the order
of the raises open; a first reading below 22.0 V raises SUPPLY_LOW, with its SUPPLY notice, before the
others: the model's choice (log 41). -/
def coldStart (reading : Nat) (d : Device) : Device :=
  let cause := d.bau.resetCause
  let d0 := blankDevice d.now d.pins
  let d1 := { d0 with
    mdc := coldRecord cause d0.mdc
    bau := { d0.bau with watch := .normal, resetCause := cause } }
  startConditions (judgeFirstSample reading (startedNotice d1))

/-- The watch enters CUTOFF: every output de-energised, a test ended with record NONE, every line
silent (R121). -/
def cutOff (reading : Nat) (d : Device) : Device :=
  { d with
    bau := { d.bau with
      channels := startChannels d.pins
      ebLine := true, edbDemand := 0, traction := false
      test := emptyTest, run := none, watch := .cutoff, reading := reading, firstSample := false
      resetCause := .supply }
    dbm := { d.dbm with trans := none }
    vru := { d.vru with tx := none }
    clp := { d.clp with tx := none } }

/-- A battery sample outside CUTOFF (R120). -/
def watchSample (reading : Nat) (d : Device) : Device :=
  if reading < Config.cutoffBelow then cutOff reading d
  else finish (
    if d.bau.firstSample then judgeFirstSample reading d
    else
      let d1 := { d with bau := { d.bau with reading := reading } }
      if d.bau.watch = .normal ∧ reading < Config.lowBelow then
        notify (.supply .low reading)
          (setCondition .supplyLow true { d1 with bau := { d1.bau with watch := .low } })
      else if d.bau.watch = .low ∧ Config.normalFrom ≤ reading then
        notify (.supply .normal reading)
          (setCondition .supplyLow false { d1 with bau := { d1.bau with watch := .normal } })
      else d1)

/-- A battery sample (R120, R121). -/
def takeBatterySample (reading : Nat) (d : Device) : Device :=
  if d.bau.watch = .cutoff then
    if Config.cutoffEnds ≤ reading then finish (coldStart reading d)
    else { d with bau := { d.bau with reading := reading } }
  else watchSample reading d

/-! ### Warm restart -/

/-- Every block as the restart leaves it, before start-up speaks (R14, R61, R82, R104, R122, R140,
R151, R167, R182, R190). The doors that become UNKNOWN queue no DOOR, and a test that ends no
TEST_RESULT: the model's choice (log 46). -/
def restartBlocks (d : Device) : Device :=
  { d with
    startAt := d.now
    mdc := { d.mdc with mode := .preparation, startUpHold := true, wakeTimer := none,
                        lastCause := .restart }
    odu := keptOdu d.odu
    ssv := ssvQuiet
    bdt := resetTable d.bdt.entries
    bau := { d.bau with
      channels := startChannels d.pins
      blend := false, run := none, test := restartedTest d.bau, firstSample := true }
    dcu := blankDcu
    dbm := blankDbm
    vru := blankVru
    aru := blankAru
    clp := blankClp }

/-- The mode and the cause set reported at a warm restart (R1, R3, log 10). -/
def restartReports (oldMode : Mode) (d : Device) : Device :=
  let causes := causesNow d
  let d1 := { d with mdc := { d.mdc with causePosition := causes.1, causeRadio := causes.2 } }
  if oldMode ≠ .preparation then callPosition (modeNotice d1)
  else if causes = (d.mdc.causePosition, d.mdc.causeRadio) then d1
  else modeNotice d1

/-- The mesh states set anew by placement (R61). -/
def restartMesh (d : Device) : Device :=
  mapBogies (fun w m => placedMesh ((bogiePlace d w).map (·.2)) m) d

/-- The warm restart (R14). The LOGON and its RADIO_LINK (R167) come behind the start-up raises, the
position report and their notices: the model's choice (log 43). -/
def warmRestart (d : Device) : Device :=
  let d1 := startedNotice (setOutputs (restartMesh (restartBlocks d)))
  let d2 := restartReports d.mdc.mode (startConditions d1)
  if bothValid d2 then linkTo .loggingOn .bothValid d2 else d2

end Sys2Proof.Machine
end

