-- ==== Sys2Proof/Machine/ProfileOps.lean ====
section
/-! DEFINITION. The operations of the Profile Store: filling a slot of the load area (section 2.2) and
the seven checks of a commit (R27 to R30). -/

namespace Sys2Proof.Machine

/-- A slot of a load table is filled, whatever it held; the list stays in rising index. -/
def putSlot {α : Type} (i : Nat) (x : α) : List (Nat × α) → List (Nat × α)
  | [] => [(i, x)]
  | s :: rest =>
    if i < s.1 then (i, x) :: s :: rest
    else if i = s.1 then (i, x) :: rest
    else s :: putSlot i x rest

/-- The record of a slot, if it is filled. -/
def slot {α : Type} (table : List (Nat × α)) (i : Nat) : Option α :=
  (table.find? (fun s => s.1 == i)).map (·.2)

/-- The canonical form of a load table: rising index, all below the number of slots. -/
def tableWf {α : Type} (room : Nat) : List (Nat × α) → Bool
  | [] => true
  | [s] => decide (s.1 < room)
  | s :: t :: rest => decide (s.1 < t.1) && tableWf room (t :: rest)

/-- The canonical form of the load area. -/
def LoadArea.wf (a : LoadArea) : Bool :=
  tableWf 256 a.segments && tableWf 32 a.stations && tableWf 128 a.markers

/-- The first empty slot below the highest filled slot, from index `i` on (R28, R30). -/
def gapAt {α : Type} (i : Nat) : List (Nat × α) → Option Nat
  | [] => none
  | s :: rest => if s.1 = i then gapAt (i + 1) rest else some i

/-- The records of the filled slots. -/
def records {α : Type} (table : List (Nat × α)) : List α := table.map (·.2)

/-- A failed check: its number, and the slot at fault unless it lies in no single record (R27). -/
abbrev CheckFailure := Nat × Option Nat

/-- Segment order, check 2: the first segment that breaks a condition, given the start before it. -/
def badStart (lineLength : Nat) : Nat → Option Nat → List Segment → Option Nat
  | _, _, [] => none
  | i, before, g :: rest =>
    let follows := match before with
      | none => g.start.toNat == 0
      | some p => decide (p < g.start.toNat)
    if follows && decide (g.start.toNat < lineLength) then
      badStart lineLength (i + 1) (some g.start.toNat) rest
    else some i

/-- Check 2 (R28). -/
def checkOrder (a : LoadArea) : Option CheckFailure :=
  if a.segments = [] then some (2, none)
  else match gapAt 0 a.segments with
    | some i => some (2, some i)
    | none => (badStart a.lineLength.toNat 0 none (records a.segments)).map (fun i => (2, some i))

/-- Whether a segment's values are in range (R28, check 3). -/
def valuesGood (g : Segment) : Bool :=
  decide (-300 ≤ g.gradient.toInt) && decide (g.gradient.toInt ≤ 300)
    && inRange 1 15000 g.limitUp.toNat && inRange 1 15000 g.limitDown.toNat

/-- Rack entry, check 4: the first RACK_ENTRY without a RACK neighbour, given the kind before. -/
def badEntry : Nat → Option Kind → List Segment → Option Nat
  | _, _, [] => none
  | i, before, g :: rest =>
    if g.kind = .rackEntry ∧ before ≠ some .rack ∧ (rest.head?.map (·.kind)) ≠ some .rack then some i
    else badEntry (i + 1) (some g.kind) rest

/-- The braking capability of a segment (R29). -/
def capable (aSb : Nat) (g : Segment) : Bool :=
  decide (gravityPull g.gradient.toInt.natAbs + Config.aMin ≤ aSb)

/-- Stations, check 6: the first that breaks a condition, given the platform end before it. -/
def badStation (lineLength : Nat) : Nat → Option Nat → List Station → Option Nat
  | _, _, [] => none
  | i, before, t :: rest =>
    let follows := match before with
      | none => true
      | some p => decide (p < t.platformStart.toNat)
    if decide (t.platformStart.toNat < t.platformEnd.toNat)
        && decide (t.platformEnd.toNat ≤ lineLength) && follows then
      badStation lineLength (i + 1) (some t.platformEnd.toNat) rest
    else some i

/-- Markers, check 7: the first that breaks a condition, given the markers before it. -/
def badMarker (lineLength : Nat) : List MarkerRec → Nat → List MarkerRec → Option Nat
  | _, _, [] => none
  | before, i, m :: rest =>
    let follows := match before.head? with
      | none => true
      | some p => decide (p.chainage.toNat < m.chainage.toNat)
    if decide (m.chainage.toNat ≤ lineLength) && follows
        && before.all (fun p => p.identity != m.identity) then
      badMarker lineLength (m :: before) (i + 1) rest
    else some i

/-- The first result that is a failure. -/
def firstSome {α : Type} : List (Option α) → Option α
  | [] => none
  | some x :: _ => some x
  | none :: rest => firstSome rest

/-- A table check that looks for gaps first (R30). -/
def gapOr {α : Type} (number : Nat) (table : List (Nat × α)) (bad : List α → Option Nat) :
    Option CheckFailure :=
  match gapAt 0 table with
  | some i => some (number, some i)
  | none => (bad (records table)).map (fun i => (number, some i))

/-- Checks 1 to 7 in order: the first failure (R27 to R30). -/
def commitFailure (config : Option CarConfig) (a : LoadArea) : Option CheckFailure :=
  match config with
  | none => some (1, none)
  | some c =>
    let segs := records a.segments
    firstSome [
      checkOrder a,
      (segs.findIdx? (fun g => !valuesGood g)).map (fun i => (3, some i)),
      (badEntry 0 none segs).map (fun i => (4, some i)),
      (segs.findIdx? (fun g => !capable c.aSb g)).map (fun i => (5, some i)),
      gapOr 6 a.stations (badStation a.lineLength.toNat 0 none),
      gapOr 7 a.markers (badMarker a.lineLength.toNat [] 0)]

/-- The profile that a load area becomes (R31, R32). -/
def profileOf (a : LoadArea) : Profile :=
  { lineLength := a.lineLength, version := a.version
    digest := some (digestOf a.lineLength (records a.segments) (records a.stations)
      (records a.markers))
    segments := records a.segments, stations := records a.stations, markers := records a.markers }

/-- The hand-over of a commit to the Odometry and Valley Radio Units (R33). The position becomes unknown
only with another digest, and only then the shadow is judged (R156). -/
def handOverCommit (kept : Bool) (d : Device) : Device :=
  linkCommit (if kept then placeAgain d else judgeShadow (placeAgain (forgetPosition d)))

/-- A successful commit (R31, R33). -/
def commit (d : Device) : Answered :=
  let p := profileOf d.prs.load
  let kept := d.prs.cur.digest == p.digest
  ⟨handOverCommit kept { d with prs := { d.prs with cur := p, valid := true } }, none,
   .committed p.version (p.digest.getD 0#32) p.segments.length p.stations.length p.markers.length
     kept⟩

/-- The extent's end and the effective limits that GET_SEGMENT shows (R34). -/
def segmentReply (config : Option CarConfig) (x : Extent) : ReplyData :=
  .segment x.seg x.hi
    (config.map (fun c => (effectiveLimit c x.seg .up, effectiveLimit c x.seg .down)))

end Sys2Proof.Machine
end

