-- ==== Sys2Proof/Machine/Initial.lean ====
section
/-! DEFINITION. The part right after a power-on reset: the end of START_UP at the first battery sample,
24.0 V (R13, R104, R120, R122; log 3). A test shows that POWER_ON and that sample give it. -/

namespace Sys2Proof.Machine

/-- The input lines at reset: DESIGN CHOICE, inactive, contacts open (log 3). -/
def resetPins : Pins :=
  { plunger := false, releasedA := false, releasedB := false, edbAvail := false, carrier := false }

/-- The reading of the first sample in tenths of a volt: DESIGN CHOICE (log 3). -/
def resetReading : Nat := 240

/-- An entry that start-up has raised, in PREPARATION before a configuration (R60, R140). -/
def startedEntry (src : Source) : Entry :=
  { defaultEntry src with state := .active, cond := true, raisedAt := some .unplaced }

/-- An EVENT_REPORT of a start-up raise, waiting in the outbox (R95, R163). -/
def startedReport (src : Source) (seq : Byte) : OutEntry :=
  ⟨seq, .eventReport, eventPayload (startedEntry src), false, 0, none, false, none⟩

/-- The table after start-up: MODE at EMERGENCY with the hold set, POSITION and DOOR_HOLD raised. -/
def initialTable : Bdt :=
  let t := resetTable (allSources.map defaultEntry)
  { t with entries := t.entries.map (fun e =>
      if e.src = .position ∨ e.src = .doorHold then startedEntry e.src else e) }

/-- The whole part right after reset. -/
def initialDevice : Device :=
  let d := blankDevice 0 resetPins
  { d with
    bdt := initialTable
    bau := { d.bau with watch := .normal, reading := resetReading }
    dbm := { d.dbm with trans := some ⟨.d1, .polling (pollBytes .d1 .lock 0 false), 0, 0, false⟩ }
    vru := { d.vru with
      outbox := [startedReport .position 0#8, startedReport .doorHold 1#8]
      seqCounter := 2#8 }
    clp := { d.clp with
      notices := [demandNotice (startedEntry .position), demandNotice (startedEntry .doorHold)]
      tx := some (.notice (.started .powerOn false)) } }

end Sys2Proof.Machine
end

