-- ==== Sys2Proof/Machine/State.lean ====
section
/-! DEFINITION. The state of the machine: everything the NK-460 keeps and the queue of commands that
wait, and the reasons a step could stop. -/

namespace Sys2Proof.Machine

/-- The state: the part, and the commands waiting, first in first out. -/
structure State where
  dev : Device
  pending : List Instr
  deriving DecidableEq, Repr

/-- The faults. There are none: no rule of the manual stops the part; during CUTOFF it takes no event,
which is a next state (R13, R121). Nobody raises one, which is safe. -/
inductive Fault
  deriving DecidableEq, Repr

/-- The refusals. -/
inductive Refusal
  /-- Raised by an arm of `exec` whose command has no meaning yet; no arm does. Safe: the model stops
  where the part goes on. -/
  | notModelled (mnemonic : String)
  deriving DecidableEq, Repr

/-- The machine right after reset, with no command waiting (log 3). -/
def State.reset : State := ⟨initialDevice, []⟩

end Sys2Proof.Machine
end

