-- ==== Sys2Proof/Machine/ModeCommands.lean ====
section
/-! DEFINITION. The meanings of the commands of chapter 1: power, the battery sense, the car
configuration, the orientation, the mode requests, the restart and the reset record. -/

namespace Sys2Proof.Machine

/-- A command's answer: the next state, its queue untouched. -/
def become (s : State) (d : Device) : Host.Outcome State Fault Refusal := .next { s with dev := d }

/-- POWER_ON: power is applied; the watch begins in CUTOFF (R13, R121). -/
def execPowerOn (s : State) : Host.Outcome State Fault Refusal :=
  become s (blankDevice s.dev.now s.dev.pins)

/-- BATTERY_SAMPLE (R120, R121). -/
def execBatterySample (deciVolts : Nat) (s : State) : Host.Outcome State Fault Refusal :=
  become s (takeBatterySample deciVolts s.dev)

/-! ### CONFIGURE_CAR -/

/-- The link silence timer at an accepted record (R184). -/
def configureSilence (c : CarConfig) (d : Device) : Device :=
  if c.linkSilence = 0 then
    setCondition .linkSilent false { d with clp := { d.clp with silence := none } }
  else if d.clp.silence.isNone then
    { d with clp := { d.clp with silence := some ⟨d.now, Config.ms c.linkSilence⟩ } }
  else d

/-- The link at a cleared flag: to OFFLINE (R152). -/
def linkFlagCleared (d : Device) : Device :=
  if d.vru.link = .offline then d else linkTo .offline .flagCleared d

/-- An accepted record and its hand-over to the neighbours (R12). The wheel remainder keeps its number
where the pulses per revolution, and so its unit, change: the model's choice (log 39). -/
def configure (c : CarConfig) (d : Device) : Device :=
  let d1 := { d with mdc := { d.mdc with config := some c }, prs := { d.prs with valid := false } }
  let d2 := linkFlagCleared d1
  let d3 := placeAgain { d2 with odu := { d2.odu with
    calib := some ⟨c.circInitial, c.calMin, .longer⟩, window := none } }
  configureSilence c (refreshModeEntry d3)

/-- CONFIGURE_CAR judged (R11). -/
def askConfigure (c : CarConfig) (d : Device) : Answered :=
  judged [(d.mdc.mode == .preparation, .wrongMode), (d.odu.standstill, .notStandstill),
          (d.bau.run.isNone, .busy)]
    (fun d => match firstBadField c with
      | some n => ⟨d, some .range, .fieldNumber n⟩
      | none => accept (configure c d)) d

def execConfigureCar (q : Req) (record : CarConfig) (s : State) :
    Host.Outcome State Fault Refusal :=
  become s (whenUp (request q (askConfigure record)) s.dev)

/-! ### SET_ORIENTATION -/

/-- SET_ORIENTATION judged (R10). -/
def askOrientation (value : Option Dir) (d : Device) : Answered :=
  judged [(d.mdc.mode == .preparation, .wrongMode), (d.odu.standstill, .notStandstill),
          (value.isSome, .range)]
    (fun d => accept (placeAgain { d with mdc := { d.mdc with orientation := value } })) d

def execSetOrientation (q : Req) (value : Option Dir) (s : State) :
    Host.Outcome State Fault Refusal :=
  become s (whenUp (request q (askOrientation value)) s.dev)

/-! ### Mode requests -/

/-- The seven checks of ENTER_SERVICE, in order (R5). -/
def serviceChecks (d : Device) : List (Bool × Reason) :=
  [(d.mdc.mode == .preparation, if d.mdc.mode = .waking then .busy else .wrongMode),
   (d.mdc.config.isSome, .notConfigured),
   (d.prs.valid, .noProfile),
   (d.mdc.orientation.isSome, .orientationUnset),
   (d.bau.test.result == .passed, .testNotPassed),
   (d.odu.known && (match d.mdc.config with
      | some c => decide (uncertainty d ≤ c.uMax)
      | none => false), .positionUnknown),
   (d.odu.standstill, .notStandstill)]

/-- ENTER_SERVICE judged (R5). -/
def askEnterService (d : Device) : Answered :=
  judged (serviceChecks d)
    (fun d => ⟨changeMode (serviceMode d) d, none, .modeEntered (serviceMode d)⟩) d

def execEnterService (q : Req) (s : State) : Host.Outcome State Fault Refusal :=
  become s (whenUp (request q askEnterService) s.dev)

/-- The wake timer stops. -/
def stopWake (d : Device) : Device := { d with mdc := { d.mdc with wakeTimer := none } }

/-- ENTER_STABLED judged (R6). -/
def askEnterStabled (d : Device) : Answered :=
  match d.mdc.mode with
  | .service | .degraded =>
    judged [(d.odu.standstill, .notStandstill), (allSecured d, .notAllowed)]
      (fun d => accept (changeMode .stabled d)) d
  | .waking => accept (changeMode .stabled (stopWake d))
  | .preparation | .stabled => refuse .wrongMode d

def execEnterStabled (q : Req) (s : State) : Host.Outcome State Fault Refusal :=
  become s (whenUp (request q askEnterStabled) s.dev)

/-- The wake timer started with the wake interval in force (R7). -/
def startWake (d : Device) : Device :=
  { d with mdc := { d.mdc with
      wakeTimer := d.mdc.config.map (fun c => ⟨d.now, Config.sec c.wakeInterval⟩) } }

/-- WAKE judged (R7). -/
def askWake (d : Device) : Answered :=
  match d.mdc.mode with
  | .stabled => accept (changeMode .waking (startWake d))
  | .waking => refuse .busy d
  | _ => refuse .wrongMode d

def execWake (q : Req) (s : State) : Host.Outcome State Fault Refusal :=
  become s (whenUp (request q askWake) s.dev)

/-- ENTER_PREPARATION judged (R8, R9). -/
def askEnterPreparation (d : Device) : Answered :=
  judged [(d.odu.standstill, .notStandstill)]
    (fun d => accept (changeMode .preparation (stopWake d))) d

def execEnterPreparation (q : Req) (s : State) : Host.Outcome State Fault Refusal :=
  become s (whenUp (request q askEnterPreparation) s.dev)

/-- The expiry of the wake timer: the update event, then the mode (R7). -/
def wakeExpires (d : Device) : Device :=
  if d.mdc.wakeTimer.isSome then
    let d1 := updateRestrictions (stopWake d)
    changeMode (serviceMode d1) d1
  else d

def execWakeTimerExpiry (s : State) : Host.Outcome State Fault Refusal :=
  become s (whenUp wakeExpires s.dev)

/-! ### Restart and reset record -/

/-- RESTART judged (R14): the restart itself waits for the end of the reply. -/
def askRestart (d : Device) : Answered :=
  judged [(d.odu.standstill, .notStandstill)]
    (fun d => accept { d with clp := { d.clp with restarting := true } }) d

def execRestart (q : Req) (s : State) : Host.Outcome State Fault Refusal :=
  become s (whenUp (request q askRestart) s.dev)

/-- WARM_RESTART: the end of the RESTART reply's last byte. It takes place only while that reply is on
the line, behind every reply in front of it (R14, R185, log 18). -/
def restartIfAccepted (d : Device) : Device :=
  match d.clp.tx with
  | some (.reply r) => if r.ofRestart then warmRestart d else d
  | _ => d

def execWarmRestart (s : State) : Host.Outcome State Fault Refusal :=
  become s (whenUp restartIfAccepted s.dev)

/-- GET_RESET_RECORD (R15). -/
def askResetRecord (d : Device) : Answered :=
  ⟨d, none, .resetRecord d.mdc.lastCause d.mdc.supplyFlag⟩

def execGetResetRecord (q : Req) (s : State) : Host.Outcome State Fault Refusal :=
  become s (whenUp (request q askResetRecord) s.dev)

/-- CLEAR_RESET_RECORD (R15). -/
def askClearResetRecord (d : Device) : Answered :=
  accept { d with mdc := { d.mdc with supplyFlag := false } }

def execClearResetRecord (q : Req) (s : State) : Host.Outcome State Fault Refusal :=
  become s (whenUp (request q askClearResetRecord) s.dev)

end Sys2Proof.Machine
end

