-- ==== Sys2Proof/Machine/ProfileCommands.lean ====
section
/-! DEFINITION. The meanings of the commands of chapter 2: the load requests, the commit and the two
profile queries. -/

namespace Sys2Proof.Machine

/-- The mode check of the load requests (R22). -/
def inPreparation (d : Device) : Bool × Reason := (d.mdc.mode == .preparation, .wrongMode)

/-- The load area rewritten; nothing else is (R22). -/
def withLoad (f : LoadArea → LoadArea) (d : Device) : Device :=
  { d with prs := { d.prs with load := f d.prs.load } }

/-- LOAD_LINE judged (R23). -/
def askLoadLine (lineLength : BitVec 24) (version : BitVec 32) (d : Device) : Answered :=
  judged [inPreparation d]
    (fun d => accept (withLoad (fun a =>
      { a with lineLength := lineLength, version := version }) d)) d

def execLoadLine (q : Req) (lineLength : BitVec 24) (version : BitVec 32) (s : State) :
    Host.Outcome State Fault Refusal :=
  become s (whenUp (request q (askLoadLine lineLength version)) s.dev)

/-- LOAD_SEGMENT judged (R24). A byte index is always 0 to 255 (check 2). -/
def askLoadSegment (index : Byte) (record : SegmentBytes) (d : Device) : Answered :=
  judged [inPreparation d]
    (fun d => match segmentOf record with
      | some g => accept (withLoad (fun a =>
          { a with segments := putSlot index.toNat g a.segments }) d)
      | none => refuse .range d) d

def execLoadSegment (q : Req) (index : Byte) (record : SegmentBytes) (s : State) :
    Host.Outcome State Fault Refusal :=
  become s (whenUp (request q (askLoadSegment index record)) s.dev)

/-- LOAD_STATION judged (R25). -/
def askLoadStation (index : Byte) (record : StationBytes) (d : Device) : Answered :=
  judged [inPreparation d, (decide (index.toNat < 32), .range)]
    (fun d => match stationOf record with
      | some t => accept (withLoad (fun a =>
          { a with stations := putSlot index.toNat t a.stations }) d)
      | none => refuse .range d) d

def execLoadStation (q : Req) (index : Byte) (record : StationBytes) (s : State) :
    Host.Outcome State Fault Refusal :=
  become s (whenUp (request q (askLoadStation index record)) s.dev)

/-- LOAD_MARKER judged (R25). -/
def askLoadMarker (index : Byte) (record : MarkerRec) (d : Device) : Answered :=
  judged [inPreparation d, (decide (index.toNat < 128), .range), (markerAccepted record, .range)]
    (fun d => accept (withLoad (fun a =>
      { a with markers := putSlot index.toNat record a.markers }) d)) d

def execLoadMarker (q : Req) (index : Byte) (record : MarkerRec) (s : State) :
    Host.Outcome State Fault Refusal :=
  become s (whenUp (request q (askLoadMarker index record)) s.dev)

/-- CLEAR_LOAD judged (R26). -/
def askClearLoad (d : Device) : Answered :=
  judged [inPreparation d] (fun d => accept (withLoad (fun _ => emptyLoad) d)) d

def execClearLoad (q : Req) (s : State) : Host.Outcome State Fault Refusal :=
  become s (whenUp (request q askClearLoad) s.dev)

/-- COMMIT_PROFILE judged (R27 to R33). -/
def askCommit (d : Device) : Answered :=
  judged [inPreparation d]
    (fun d => match commitFailure d.mdc.config d.prs.load with
      | some f => ⟨d, some .checkFailed, .check f.1 f.2⟩
      | none => commit d) d

def execCommitProfile (q : Req) (s : State) : Host.Outcome State Fault Refusal :=
  become s (whenUp (request q askCommit) s.dev)

/-- GET_PROFILE_INFO (R34). -/
def askProfileInfo (d : Device) : Answered :=
  let p := d.prs.cur
  ⟨d, none, .profileInfo d.prs.valid p.lineLength p.version p.digest p.segments.length
    p.stations.length p.markers.length⟩

def execGetProfileInfo (q : Req) (s : State) : Host.Outcome State Fault Refusal :=
  become s (whenUp (request q askProfileInfo) s.dev)

/-- GET_SEGMENT judged (R34). -/
def askSegment (index : Nat) (d : Device) : Answered :=
  if d.prs.cur.segments = [] then refuse .noProfile d
  else match d.prs.cur.extents[index]? with
    | some x => ⟨d, none, segmentReply d.mdc.config x⟩
    | none => refuse .notFound d

def execGetSegment (q : Req) (index : Nat) (s : State) : Host.Outcome State Fault Refusal :=
  become s (whenUp (request q (askSegment index)) s.dev)

end Sys2Proof.Machine
end

