-- ==== Sys2Proof/Machine/OdometryCommands.lean ====
section
/-! DEFINITION. The meanings of the commands of chapters 3 and 4: the edges, the window ends, marker
reads, SET_POSITION, the speed sample, the setting of the standstill indication, and the two queries. -/

namespace Sys2Proof.Machine

/-! ### Rack teeth -/

/-- What a rack tooth of the source bogie adds: the calibration window, while the bogie still is the
source, and the distance (R36, log 11). -/
def sourceTooth (which : Bogie) (sense : Sense) (d : Device) : Device :=
  let d1 := if d.odu.source = .rack which then calTooth sense d else d
  match d.mdc.config with
  | some c => takeDistance false c.rackPitch (edgeDir d.mdc.orientation sense) d1
  | none => d1

/-- A counted rack tooth (R36). -/
def rackTooth (which : Bogie) (sense : Sense) (d : Device) : Device :=
  let wasSource : Bool := d.odu.source = .rack which
  let d1 := rackToothMesh which (countEdge d)
  if wasSource then sourceTooth which sense d1 else d1

def execRackToothEdge (bogie : Bogie) (sense : Sense) (s : State) :
    Host.Outcome State Fault Refusal :=
  become s (whenUp (rackTooth bogie sense) s.dev)

/-- The rack tooth that ends a mesh window (R50): the 32nd of the window of a MESHED bogie; no event
of this name takes place otherwise (log 4). -/
def meshWindowTooth (which : Bogie) (sense : Sense) (d : Device) : Device :=
  let m := d.odu.bogies.get which
  if m.state = .meshed ∧ Config.meshWindow ≤ m.rackCount + 1 then rackTooth which sense d else d

def execMeshWindowEnd (bogie : Bogie) (sense : Sense) (s : State) :
    Host.Outcome State Fault Refusal :=
  become s (whenUp (meshWindowTooth bogie sense) s.dev)

/-- The rack tooth that ends a calibration window (R57): the 64th of the source bogie after the first,
in the window's sense; no event of this name takes place otherwise (log 4). -/
def calibrationTooth (d : Device) : Device :=
  match d.odu.source, d.odu.window with
  | .rack which, some w =>
    if Config.calibrationWindow ≤ w.teeth + 1 then rackTooth which w.sense d else d
  | _, _ => d

def execCalibrationWindowEnd (s : State) : Host.Outcome State Fault Refusal :=
  become s (whenUp calibrationTooth s.dev)

/-- A counted pinion tooth (R36). -/
def pinionTooth (which : Bogie) (d : Device) : Device := pinionToothMesh which (countEdge d)

def execPinionToothEdge (bogie : Bogie) (_sense : Sense) (s : State) :
    Host.Outcome State Fault Refusal :=
  become s (whenUp (pinionTooth bogie) s.dev)

/-! ### Wheel pulses -/

/-- The sign of a pulse in the remainder: UP and, while the orientation is unset, towards end 1 are
positive (R39, log 13). -/
def pulseSign (orientation : Option Dir) (sense : Sense) : Int :=
  match edgeDir orientation sense, sense with
  | some .up, _ => 1
  | some .down, _ => -1
  | none, .towardsEnd1 => 1
  | none, .towardsEnd2 => -1

/-- The remainder and the whole millimetres that a pulse gives (R39): the remainder after the pulse,
with the whole millimetres taken out of it. -/
def convertPulse (unit circumference : Nat) (sign remainder : Int) : Nat × Int :=
  let r := remainder + sign * circumference
  (r.natAbs / unit, r.tmod unit)

/-- A counted wheel pulse (R36, R39, R51, R57). The source before the pulse decides whether it gives
source distance, so a pulse whose missing-rack fault makes the wheel the source gives none; bogie A's
run is judged before bogie B's, and both runs before the pulse's distance moves position and U. All three
are the model's choice (log 38). -/
def wheelPulse (sense : Sense) (d : Device) : Device :=
  let d1 := calPulse sense (countEdge d)
  match d1.mdc.config, d1.odu.calib with
  | some c, some k =>
    let x := convertPulse (c.pulsesPerRev * 10) k.circumference
      (pulseSign d1.mdc.orientation sense) d1.odu.remainder
    let fromWheel : Bool := d1.odu.source = .wheel
    let d2 := { d1 with odu := { d1.odu with remainder := x.2 } }
    let d3 := missingRack x.1 .b (missingRack x.1 .a d2)
    if fromWheel then takeDistance true x.1 (edgeDir d1.mdc.orientation sense) d3 else d3
  | _, _ => d1

def execWheelPulse (sense : Sense) (s : State) : Host.Outcome State Fault Refusal :=
  become s (whenUp (wheelPulse sense) s.dev)

/-! ### The position record -/

/-- The record set by a marker (R44, step 3; R45). -/
def setByMarker (c : CarConfig) (facing : Dir) (m : MarkerRec) (conflict clamp : Bool) (d : Device) :
    Device :=
  let r := clampTo d.prs.cur.lineLength.toNat (positionFor c facing m.chainage.toNat c.reader)
  judgeShadow (placeAgain { d with odu := { d.odu with
    known := true, position := r.1, uBase := m.accuracy.toNat, wheelRun := 0
    lastMarker := some m.identity, conflict := conflict, clamp := clamp || r.2 } })

/-- Whether a marker agrees with a known position (R45). -/
def markerAgrees (c : CarConfig) (facing : Dir) (m : MarkerRec) (d : Device) : Bool :=
  decide ((linePoint c facing d.odu.position c.reader - (m.chainage.toNat : Int)).natAbs
    ≤ uncertainty d + m.accuracy.toNat)

/-- A marker read (R44, R45). -/
def readMarker (identity : BitVec 16) (d : Device) : Device :=
  match d.mdc.orientation, d.mdc.config with
  | some facing, some c =>
    match d.prs.cur.marker identity with
    | none => notify (.markerUnknown identity) d
    | some m =>
      if d.odu.known then
        if markerAgrees c facing m d then setByMarker c facing m false false d
        else setByMarker c facing m true d.odu.clamp d
      else setByMarker c facing m false false d
  | _, _ => d

def execMarkerRead (identity : BitVec 16) (s : State) : Host.Outcome State Fault Refusal :=
  become s (whenUp (readMarker identity) s.dev)

/-- The checks of SET_POSITION, in order (R46). -/
def positionChecks (chainage uncertainty : Nat) (d : Device) : List (Bool × Reason) :=
  [(d.mdc.mode == .preparation, .wrongMode), (d.odu.standstill, .notStandstill),
   (d.mdc.config.isSome, .notConfigured), (d.prs.cur.segments != [], .noProfile),
   (d.mdc.orientation.isSome, .orientationUnset),
   (decide (chainage ≤ d.prs.cur.lineLength.toNat) && inRange 500 16777215 uncertainty, .range)]

/-- SET_POSITION judged (R46). -/
def askSetPosition (chainage uncertainty : Nat) (d : Device) : Answered :=
  judged (positionChecks chainage uncertainty d)
    (fun d => accept (judgeShadow (placeAgain { d with odu := { d.odu with
      known := true, position := chainage, uBase := uncertainty, wheelRun := 0
      conflict := false, clamp := false } }))) d

def execSetPosition (q : Req) (chainage uncertainty : Nat) (s : State) :
    Host.Outcome State Fault Refusal :=
  become s (whenUp (request q (askSetPosition chainage uncertainty)) s.dev)

def execGetOdometry (q : Req) (part : Byte) (s : State) : Host.Outcome State Fault Refusal :=
  become s (whenUp (request q (query .odometry part (fun d => .odometry (odometryView d)))) s.dev)

/-! ### The speed sample -/

/-- The sample distances and the speed (R54). -/
def sampleSpeed (d : Device) : Device :=
  let dists := (d.odu.sampleAcc :: d.odu.dists).take 4
  { d with odu := { d.odu with
      dists := dists, sampleAcc := 0, speed := min Config.maxSpeed (dists.sum * 5) } }

/-- The quiet count at a sample, and the setting of standstill at the 20th (R55). That the count stops at
20 is the model's choice (log 55). -/
def countQuiet (d : Device) : Device :=
  if d.odu.edgeSince then { d with odu := { d.odu with edgeSince := false } }
  else
    let n := min Config.quietSamples (d.odu.quiet + 1)
    let d1 := { d with odu := { d.odu with quiet := n } }
    if n = Config.quietSamples ∧ d.odu.quiet < Config.quietSamples then setStandstill d1 else d1

/-- The handle as the sample finds it (R97). HANDLE_FAULT comes behind the raise by the model's choice
(log 54). -/
def sampleHandle (handle : Nat) (fault : Bool) (d : Device) : Device :=
  let faulty := handleIsFaulty handle fault
  let before := d.bdt.handleFaulty
  let want := handleDemand d.mdc.config handle fault
  let d1 := raiseWith .driverHandle want.1 want.2
    { d with bdt := { d.bdt with handleFaulty := faulty } }
  if faulty ∧ ¬ before then notify (.handleFault handle fault) d1 else d1

/-- The passenger alarm judged against the no-stop zones at a sample (R101, R102). -/
def judgeAlarm (d : Device) : Device :=
  bdtEvent (onEntry .passengerAlarm (judgeAlarmEntry (overNoStop d))) d

/-- A speed sample (R54): the Odometry Unit, then its readers (log 14). -/
def speedSample (handle : Nat) (fault : Bool) (d : Device) : Device :=
  let d1 := rackEntryTest (countQuiet (sampleSpeed d))
  let d2 := judgeAlarm (sampleHandle handle fault (evaluate d1))
  judgeShadow (judgeRelease (refreshBrakes d2))

def execSpeedSample (handle : Nat) (handleFault : Bool) (s : State) :
    Host.Outcome State Fault Refusal :=
  become s (whenUp (speedSample handle handleFault) s.dev)

/-- STANDSTILL_SET: the sample that is the 20th quiet one sets the indication (R55); no event of this
name takes place otherwise (log 4). -/
def twentiethQuiet (d : Device) : Device :=
  if ¬ d.odu.standstill ∧ ¬ d.odu.edgeSince ∧ Config.quietSamples ≤ d.odu.quiet + 1 then
    setStandstill { d with odu := { d.odu with quiet := Config.quietSamples } }
  else d

def execStandstillSet (s : State) : Host.Outcome State Fault Refusal :=
  become s (whenUp twentiethQuiet s.dev)

def execGetSupervision (q : Req) (part : Byte) (s : State) : Host.Outcome State Fault Refusal :=
  become s (whenUp (request q (query .supervision part (fun d => .supervision d.ssv))) s.dev)

end Sys2Proof.Machine
end

