-- ==== Sys2Proof/Machine/BrakeCommands.lean ====
section
/-! DEFINITION. The meanings of the commands of chapters 5 and 6: the plunger, the reaction table,
acknowledgement, the host's demand, the feedback contacts and timers, the electric brake line, and the
brake test. -/

namespace Sys2Proof.Machine

/-! ### Brake Demand Table -/

/-- The plunger line as it stands after an edge. -/
def withPlunger (active : Bool) (d : Device) : Device := { d with pins := { d.pins with plunger := active } }

/-- PLUNGER_EDGE (R96). During CUTOFF the line moves and nothing else does (log 20). -/
def execPlungerEdge (active : Bool) (s : State) : Host.Outcome State Fault Refusal :=
  become s (whenUp (setCondition .plunger active) (withPlunger active s.dev))

/-- An entry under a new row of the reaction table (R87). -/
def newRow (level : Level) (mode : LatchMode) (e : Entry) : Entry :=
  { e with cfgLevel := level, mode := mode
           state := if e.state = .held ∧ mode = .flow then .idle else e.state }

/-- SET_REACTION judged (R87). -/
def askReaction (source : Nat) (level : Option Level) (mode : Option LatchMode) (d : Device) :
    Answered :=
  if d.mdc.mode ≠ .preparation then refuse .wrongMode d
  else match sourceOfNat source with
    | none => refuse .range d
    | some src =>
      if src.carriesLevel then refuse .notAllowed d
      else match level, mode with
        | some l, some m =>
          if src.floor.rank ≤ l.rank ∧ src.allows m then
            accept (bdtEvent (onEntry src (newRow l m)) d)
          else refuse .range d
        | _, _ => refuse .range d

def execSetReaction (q : Req) (source : Nat) (level : Option Level) (mode : Option LatchMode)
    (s : State) : Host.Outcome State Fault Refusal :=
  become s (whenUp (request q (askReaction source level mode)) s.dev)

/-- An entry released by an acknowledgement (R91). -/
def releasedEntry (e : Entry) : Entry := { e with state := .idle, decel := none }

/-- The outcome of ACK_DEMAND for an entry: `none` releases it (R91, rows 2 to 6). -/
def ackOutcome (standstill : Bool) (e : Entry) : Option Reason :=
  if e.cond then some .conditionPresent
  else match e.state with
    | .deferred => none
    | .idle | .active => some .notHeld
    | .held =>
      if e.mode = .flow then some .notHeld
      else if e.mode = .latchStandstill ∧ ¬ standstill then some .notStandstill
      else none

/-- The release of an entry, told to the Odometry Unit for MESH (R91, R52). -/
def releaseEntry (src : Source) (d : Device) : Device :=
  let d1 := bdtEvent (onEntry src releasedEntry) d
  if src = .mesh then recoverBogies d1 else d1

/-- ACK_DEMAND judged (R91). -/
def askAck (source : Nat) (d : Device) : Answered :=
  match sourceOfNat source with
  | none => refuse .range d
  | some src =>
    match d.bdt.entry? src with
    | none => refuse .range d
    | some e =>
      match ackOutcome d.odu.standstill e with
      | some r => refuse r d
      | none => accept (releaseEntry src d)

def execAckDemand (q : Req) (source : Nat) (s : State) : Host.Outcome State Fault Refusal :=
  become s (whenUp (request q (askAck source)) s.dev)

/-- The levels a host may ask for (R98). -/
def requestable (l : Level) : Bool := l == .none || l == .cut || l == .service || l == .full

/-- The checks of BRAKE_REQUEST, in order (R98). -/
def brakeRequestChecks (level : Level) (deceleration : Nat) (d : Device) : List (Bool × Reason) :=
  [(requestable level, .range),
   (level != .service || d.mdc.config.isSome, .notConfigured),
   (level != .service || (match d.mdc.config with
      | some c => inRange 1 c.aSb deceleration
      | none => false), .range)]

/-- BRAKE_REQUEST judged (R98). -/
def askBrakeRequest (level : Option Level) (deceleration : Nat) (d : Device) : Answered :=
  match level with
  | none => refuse .range d
  | some l =>
    judged (brakeRequestChecks l deceleration d)
      (fun d => accept (raiseWith .linkRequest l
        (if l = .service then some deceleration else none) d)) d

def execBrakeRequest (q : Req) (level : Option Level) (deceleration : Nat) (s : State) :
    Host.Outcome State Fault Refusal :=
  become s (whenUp (request q (askBrakeRequest level deceleration)) s.dev)

def execGetDemands (q : Req) (part : Byte) (s : State) : Host.Outcome State Fault Refusal :=
  become s (whenUp (request q (query .demands part (fun d => .demands (demandsView d)))) s.dev)

/-! ### Feedback and the electric brake line -/

/-- A feedback contact as it stands after an edge. -/
def withContact (ch : Channel) (released : Bool) (d : Device) : Device :=
  match ch with
  | .a => { d with pins := { d.pins with releasedA := released } }
  | .b => { d with pins := { d.pins with releasedB := released } }

/-- The feedback field follows the contact; it is judged while the timer is stopped (R105, R111), and
a release is judged with it (R133), behind the fault by the model's choice (log 54). -/
def feedbackEdge (ch : Channel) (released : Bool) (d : Device) : Device :=
  let c := { d.bau.channels.ofChannel ch with released := released }
  let d1 := { d with bau := { d.bau with channels := d.bau.channels.setChannel ch c } }
  judgeRelease (if c.timer.isNone then judgeChannel ch d1 else d1)

/-- FEEDBACK_EDGE. During CUTOFF the contact moves and nothing else does (log 20). -/
def execFeedbackEdge (channel : Channel) (released : Bool) (s : State) :
    Host.Outcome State Fault Refusal :=
  become s (whenUp (feedbackEdge channel released) (withContact channel released s.dev))

/-- The expiry of a running feedback timer (R111). -/
def feedbackExpires (ch : Channel) (d : Device) : Device :=
  let c := d.bau.channels.ofChannel ch
  if c.timer.isSome then
    judgeChannel ch { d with bau := { d.bau with
      channels := d.bau.channels.setChannel ch { c with timer := none } } }
  else d

def execFeedbackTimerExpiry (channel : Channel) (s : State) : Host.Outcome State Fault Refusal :=
  become s (whenUp (feedbackExpires channel) s.dev)

/-- The "electric brake available" line as it stands after an edge. -/
def withEdbLine (active : Bool) (d : Device) : Device := { d with pins := { d.pins with edbAvail := active } }

/-- ELECTRIC_BRAKE_AVAILABLE_EDGE (R105, R108). During CUTOFF the line moves and nothing else does
(log 20). -/
def execElectricBrakeAvailableEdge (active : Bool) (s : State) :
    Host.Outcome State Fault Refusal :=
  become s (whenUp refreshBrakes (withEdbLine active s.dev))

/-! ### The brake test -/

/-- A hold point as the request gives it, if it names a cycle and a phase (R114, check 3). -/
def holdPointOf (config : Option CarConfig) (hold : Nat × Nat) : Option (Nat × Phase) :=
  match config, phaseOfNat hold.2 with
  | some c, some p => if inRange 1 c.testCycles hold.1 then some (hold.1, p) else none
  | _, _ => none

/-- Whether the hold point of a request, if any, is one (R114, check 3). -/
def holdPointGood (config : Option CarConfig) (hold : Option (Nat × Nat)) : Bool :=
  match hold with
  | none => true
  | some h => (holdPointOf config h).isSome

/-- The six checks of START_BRAKE_TEST, in order (R114). -/
def testChecks (hold : Option (Nat × Nat)) (d : Device) : List (Bool × Reason) :=
  [(d.mdc.mode == .preparation || d.mdc.mode.inService, .wrongMode),
   (d.bau.run.isNone, .busy),
   (holdPointGood d.mdc.config hold, .range),
   (d.odu.standstill, .notStandstill),
   (!anyEmergency d.bdt.entries && !d.bdt.hold, .conditionPresent),
   (allSecured d, .notAllowed)]

/-- The record RUNNING and phase 1 of cycle 1 (R114). -/
def beginTest (hold : Option (Nat × Nat)) (d : Device) : Device :=
  beginPhase .aOnly 1 { d with bau := { d.bau with test :=
    { result := .running, endCause := none, holdPoint := hold.bind (holdPointOf d.mdc.config)
      phaseReached := some .aOnly, cycleReached := some 1, movement := 0 } } }

/-- What the start of a test brings: the release withdrawn (R133), the move to PREPARATION (R4), the
roll-away test (R56). R114 orders the phase before the mode; the rest is the model's choice (log 54). -/
def startTest (hold : Option (Nat × Nat)) (d : Device) : Device :=
  rollawayTest (changeMode .preparation (judgeRelease (beginTest hold d)))

/-- START_BRAKE_TEST judged (R114). -/
def askStartTest (hold : Option (Nat × Nat)) (d : Device) : Answered :=
  judged (testChecks hold d) (fun d => accept (startTest hold d)) d

def execStartBrakeTest (q : Req) (hold : Option (Nat × Nat)) (s : State) :
    Host.Outcome State Fault Refusal :=
  become s (whenUp (request q (askStartTest hold)) s.dev)

/-- The result of a stopped test (R118). -/
def stoppedResult (t : TestRec) (r : TestRun) : TestResult :=
  if t.holdPoint = some (r.cycle, r.phase) ∧ (r.phase.single → r.movement = 0) then .passed
  else .aborted

/-- STOP_BRAKE_TEST judged (R118). -/
def askStopTest (d : Device) : Answered :=
  match d.bau.run with
  | none => refuse .notAllowed d
  | some r => accept (endTest (stoppedResult d.bau.test r) .stopped d)

def execStopBrakeTest (q : Req) (s : State) : Host.Outcome State Fault Refusal :=
  become s (whenUp (request q askStopTest) s.dev)

/-- The expiry of a running phase timer (R115). -/
def phaseExpires (d : Device) : Device :=
  match d.bau.run with
  | some r => if r.timer.isSome then nextPhase r d else d
  | none => d

def execPhaseTimerExpiry (s : State) : Host.Outcome State Fault Refusal :=
  become s (whenUp phaseExpires s.dev)

def execGetTest (q : Req) (part : Byte) (s : State) : Host.Outcome State Fault Refusal :=
  become s (whenUp (request q (query .test part (fun d => .test (testView d)))) s.dev)

end Sys2Proof.Machine
end

