-- ==== Sys2Proof/Machine/DoorCommands.lean ====
section
/-! DEFINITION. The meanings of the commands of chapters 7 and 8: release, closing and isolation of the
doors, the reopen dwell, and the events of the door bus. -/

namespace Sys2Proof.Machine

/-! ### Release and closing -/

/-- Whether a release is in force for the other side (R130, check 5). -/
def releasedOther (d : Device) (side : Option Side) : Bool :=
  match d.dcu.release, side with
  | some rel, some x => rel.side != x
  | _, _ => false

/-- The eight checks of RELEASE_DOORS, in order (R130). -/
def releaseChecks (side : Option Side) (d : Device) : List (Bool × Reason) :=
  [(d.bau.run.isNone, .busy), (d.mdc.mode.inService, .wrongMode), (side.isSome, .range),
   (d.mdc.orientation.isSome, .orientationUnset), (!releasedOther d side, .notAllowed),
   (d.odu.standstill, .notStandstill), (d.bau.bothApplied, .brakesNotApplied),
   ((match side with
     | some x => platformCovers d x
     | none => false), .platform)]

/-- A door takes the order RELEASE (R132, steps 2 and 3). -/
def releaseDoor (r : DoorRec) : DoorRec :=
  if r.state = .isolated ∨ r.state = .obstructed ∨ r.order = .release then r
  else { r with order := .release, attempts := 0, dwell := none
                state := if r.state = .closed then .released else r.state }

/-- Whole seconds since the last start-up (R132). -/
def uptime (d : Device) : Nat := elapsed d d.startAt / Config.sec 1

/-- An accepted RELEASE_DOORS (R132). -/
def grantRelease (side : Side) (d : Device) : Device :=
  judgeDoorConditions
    (eachDoor (fun n r => if belongsTo d n side then releaseDoor r else r)
      { d with dcu := { d.dcu with release := some ⟨side, uptime d⟩ } })

/-- RELEASE_DOORS judged (R130). -/
def askReleaseDoors (side : Option Side) (d : Device) : Answered :=
  judged (releaseChecks side d)
    (fun d => match side with
      | some x => accept (grantRelease x d)
      | none => refuse .range d) d

def execReleaseDoors (q : Req) (side : Option Side) (s : State) :
    Host.Outcome State Fault Refusal :=
  become s (whenUp (request q (askReleaseDoors side)) s.dev)

/-- Whether a CLOSE_DOORS side covers a door (R124, R134). -/
def coversDoor (d : Device) (side : SideSel) (n : DoorNo) : Bool :=
  match side with
  | .both => true
  | .one x => belongsTo d n x

/-- Whether a CLOSE_DOORS side covers the released side (R134). -/
def coversSide (side : SideSel) (x : Side) : Bool :=
  match side with
  | .both => true
  | .one y => x == y

/-- The release record after a CLOSE_DOORS (R134). -/
def releaseAfterClose (side : SideSel) (rel : Option Release) : Option Release :=
  rel.filter (fun x => !coversSide side x.side)

/-- An accepted CLOSE_DOORS (R134). -/
def closeDoors (side : SideSel) (d : Device) : Device :=
  eachDoor (fun n r => if coversDoor d side n ∧ r.state ≠ .isolated then closeDoor r else r)
    { d with dcu := { d.dcu with release := releaseAfterClose side d.dcu.release } }

/-- CLOSE_DOORS judged (R134). -/
def askCloseDoors (side : Option SideSel) (d : Device) : Answered :=
  match side with
  | none => refuse .range d
  | some x =>
    judged [(x == .both || d.mdc.config.isSome, .notConfigured)] (fun d => accept (closeDoors x d)) d

def execCloseDoors (q : Req) (side : Option SideSel) (s : State) :
    Host.Outcome State Fault Refusal :=
  become s (whenUp (request q (askCloseDoors side)) s.dev)

/-- The most attempts that a door record counts (R124). -/
def maxAttempts : Nat := 5

/-- The expiry of a door's reopen dwell timer (R134). A count that stands at 5 stays there (R124,
log 35). -/
def dwellExpires (n : DoorNo) (d : Device) : Device :=
  let r := d.dcu.doors.get n
  if r.dwell.isSome then
    let count := min maxAttempts (r.attempts + 1)
    let spent := match d.mdc.config with
      | some c => decide (c.doorAttempts ≤ count)
      | none => true
    setDoor n (if spent then { r with dwell := none, attempts := count, state := .obstructed }
               else { r with dwell := none, attempts := count, order := .close }) d
  else d

def execReopenDwellExpiry (door : DoorNo) (s : State) : Host.Outcome State Fault Refusal :=
  become s (whenUp (dwellExpires door) s.dev)

/-! ### Isolation -/

/-- The record of an isolated door (R136). -/
def isolatedDoor : DoorRec := ⟨.isolated, .lock, 0, none, none⟩

/-- An accepted ISOLATE_DOOR (R136, R150), its conditions behind the bus by the model's choice (log 54). -/
def isolate (n : DoorNo) (d : Device) : Device :=
  if (d.dcu.doors.get n).state = .isolated then d
  else judgeDoorConditions (isolateUnit n (setDoor n isolatedDoor d))

/-- ISOLATE_DOOR judged (R136). -/
def askIsolate (door : Nat) (d : Device) : Answered :=
  match doorOfNat door with
  | none => refuse .range d
  | some n => judged [(d.odu.standstill, .notStandstill)] (fun d => accept (isolate n d)) d

def execIsolateDoor (q : Req) (door : Nat) (s : State) : Host.Outcome State Fault Refusal :=
  become s (whenUp (request q (askIsolate door)) s.dev)

/-- DEISOLATE_DOOR judged (R137). -/
def askDeisolate (door : Nat) (d : Device) : Answered :=
  match doorOfNat door with
  | none => refuse .range d
  | some n =>
    judged [(d.odu.standstill, .notStandstill),
            ((d.dcu.doors.get n).state == .isolated, .notAllowed)]
      (fun d => accept (judgeDoorConditions (setDoor n blankDoor d))) d

def execDeisolateDoor (q : Req) (door : Nat) (s : State) : Host.Outcome State Fault Refusal :=
  become s (whenUp (request q (askDeisolate door)) s.dev)

def execGetDoors (q : Req) (part : Byte) (s : State) : Host.Outcome State Fault Refusal :=
  become s (whenUp (request q (query .doors part (fun d => .doors (doorsView d)))) s.dev)

/-! ### The door bus -/

/-- The end of a poll's last byte: the bus is released and the answer window opens (R143). -/
def pollEnd (d : Device) : Device :=
  match d.dbm.trans with
  | some t =>
    match t.stage with
    | .polling _ => { d with dbm := { d.dbm with trans := some { t with stage := .window d.now } } }
    | _ => d
  | none => d

def execPollSent (s : State) : Host.Outcome State Fault Refusal := become s (whenUp pollEnd s.dev)

def execDoorAnswerReport (answer : AnswerBytes) (s : State) : Host.Outcome State Fault Refusal :=
  become s (whenUp (takeAnswer (fun n => judgeReport n answer)) s.dev)

def execDoorAnswerWait (answer : AnswerBytes) (s : State) : Host.Outcome State Fault Refusal :=
  become s (whenUp (takeAnswer (fun n => judgeWait n answer)) s.dev)

/-- A scheduled repeat poll is formed anew and sent (R143, R145). -/
def repeatPoll (d : Device) : Device :=
  match d.dbm.trans with
  | some t =>
    match t.stage with
    | .repeatDue _ =>
      { d with dbm := { d.dbm with trans := some { t with
          stage := formPoll d t.unit (t.repeatNo + 1), repeatNo := t.repeatNo + 1 } } }
    | _ => d
  | none => d

def execRepeatPoll (s : State) : Host.Outcome State Fault Refusal := become s (whenUp repeatPoll s.dev)

def execBadAnswer (bytes : List Byte) (s : State) : Host.Outcome State Fault Refusal :=
  become s (whenUp (takeAnswer (fun n => judgeAnswer n bytes)) s.dev)

/-- An answer window closes without a good answer: a miss (R146). -/
def windowCloses (d : Device) : Device := takeAnswer (fun _ => .bad) d

def execAnswerWindowClose (s : State) : Host.Outcome State Fault Refusal :=
  become s (whenUp windowCloses s.dev)

/-- The two flags of a unit cleared (R149). -/
def clearFlags (l : LinkRec) : LinkRec := { l with missFlag := false, waitFlag := false }

/-- CLEAR_DOOR_FLAGS judged (R149). -/
def askClearFlags (unit : Nat) (d : Device) : Answered :=
  if unit = 0 then
    accept { d with dbm := { d.dbm with links := d.dbm.links.map clearFlags } }
  else match doorOfNat unit with
    | some n => accept (mapLink n clearFlags d)
    | none => refuse .range d

def execClearDoorFlags (q : Req) (unit : Nat) (s : State) : Host.Outcome State Fault Refusal :=
  become s (whenUp (request q (askClearFlags unit)) s.dev)

end Sys2Proof.Machine
end

