-- ==== Sys2Proof/Machine/RadioCommands.lean ====
section
/-! DEFINITION. The meanings of the commands of chapter 9: the radio timers, the transmitter, the
downlink telegrams of the radio itself, and GET_RADIO. -/

namespace Sys2Proof.Machine

def execLogonAccept (t : Telegram) (s : State) : Host.Outcome State Fault Refusal :=
  become s (whenUp (takeTelegram .logonAccept t) s.dev)

/-- The LOGON entry made due and the timer restarted (R154). -/
def logonExpires (d : Device) : Device :=
  if d.vru.logonTimer.isSome then
    { d with vru := { d.vru with
        logonTimer := some ⟨d.now, Config.sec Config.logonSeconds⟩
        outbox := d.vru.outbox.map (fun e =>
          if e.kind = .logon ∧ e.awaiting then { e with due := true } else e) } }
  else d

def execLogonTimerExpiry (s : State) : Host.Outcome State Fault Refusal :=
  become s (whenUp logonExpires s.dev)

def execSilenceTimerExpiry (s : State) : Host.Outcome State Fault Refusal :=
  become s (whenUp silenceExpires s.dev)

/-- The report interval timer expires in ONLINE (R162). -/
def reportExpires (d : Device) : Device :=
  if d.vru.reportTimer.isSome then
    callPosition { d with vru := { d.vru with reportTimer := reportIntervalTimer d } }
  else d

def execReportIntervalExpiry (s : State) : Host.Outcome State Fault Refusal :=
  become s (whenUp reportExpires s.dev)

def execAckTimeoutExpiry (seq : Byte) (s : State) : Host.Outcome State Fault Refusal :=
  become s (whenUp (ackTimeout seq) s.dev)

def execTelegramSent (s : State) : Host.Outcome State Fault Refusal :=
  become s (whenUp telegramEnd s.dev)

/-- Bytes that the modem delivers (R157): complete telegrams are judged one at a time, each closed as a
command is (log 5), and the rest stays in assembly. -/
def takeModemBytes (bytes : List Byte) (d : Device) : Device :=
  let all := inAssembly d.vru.rx ++ bytes
  let r := assemble radioTelegram (all.length + 1) all
  r.1.foldl (fun x f => finish (takeComplete f x))
    { d with vru := { d.vru with rx := assemblyAfter d.vru.rx bytes r.2 d.now } }

def execDownlinkDiscarded (bytes : List Byte) (s : State) : Host.Outcome State Fault Refusal :=
  become s (whenUp (takeModemBytes bytes) s.dev)

/-- The 100 ms limit of a telegram being assembled (R157). -/
def dropTelegram (d : Device) : Device := { d with vru := { d.vru with rx := none } }

def execTelegramAssemblyTimeout (s : State) : Host.Outcome State Fault Refusal :=
  become s (whenUp dropTelegram s.dev)

def execUnknownTelegramKind (kind : Byte) (t : Telegram) (s : State) :
    Host.Outcome State Fault Refusal :=
  become s (whenUp (takeTelegram (downKindOf kind) t) s.dev)

def execUplinkAck (t : Telegram) (s : State) : Host.Outcome State Fault Refusal :=
  become s (whenUp (takeTelegram .uplinkAck t) s.dev)

def execPoll (t : Telegram) (s : State) : Host.Outcome State Fault Refusal :=
  become s (whenUp (takeTelegram .poll t) s.dev)

/-- The CARRIER line as the reply reads it (R168, log 26). -/
def withCarrier (carrier : Bool) (d : Device) : Device := { d with pins := { d.pins with carrier := carrier } }

def execGetRadio (q : Req) (part : Byte) (carrier : Bool) (s : State) :
    Host.Outcome State Fault Refusal :=
  become s (whenUp (request q (query .radio part (fun d => .radio (radioView d))))
    (withCarrier carrier s.dev))

end Sys2Proof.Machine
end

