-- ==== Sys2Proof/Machine/AuthorityCommands.lean ====
section
/-! DEFINITION. The meanings of the commands of chapter 10: the telegrams of the Authority and
Restriction Unit, the expiry of an authority, the selected direction, and the host's requests. -/

namespace Sys2Proof.Machine

/-! ### Telegrams -/

def execAuthorityGrant (t : Telegram) (s : State) : Host.Outcome State Fault Refusal :=
  become s (whenUp (takeTelegram .authorityGrant t) s.dev)

def execAuthorityShorten (t : Telegram) (s : State) : Host.Outcome State Fault Refusal :=
  become s (whenUp (takeTelegram .authorityShorten t) s.dev)

def execAuthorityWithdraw (t : Telegram) (s : State) : Host.Outcome State Fault Refusal :=
  become s (whenUp (takeTelegram .authorityWithdraw t) s.dev)

def execRestrictionSet (t : Telegram) (s : State) : Host.Outcome State Fault Refusal :=
  become s (whenUp (takeTelegram .restrictionSet t) s.dev)

def execRestrictionLift (t : Telegram) (s : State) : Host.Outcome State Fault Refusal :=
  become s (whenUp (takeTelegram .restrictionLift t) s.dev)

def execStopOrder (t : Telegram) (s : State) : Host.Outcome State Fault Refusal :=
  become s (whenUp (takeTelegram .stopOrder t) s.dev)

def execStopRelease (t : Telegram) (s : State) : Host.Outcome State Fault Refusal :=
  become s (whenUp (takeTelegram .stopRelease t) s.dev)

/-- The expiry timer of an authority (R171, R174). -/
def authorityExpires (d : Device) : Device := if d.aru.timer.isSome then withdrawAuthority d else d

def execAuthorityExpiry (s : State) : Host.Outcome State Fault Refusal :=
  become s (whenUp authorityExpires s.dev)

/-! ### Requests -/

/-- A selected direction taken (R169, R56, R156). -/
def selectDir (value : Option Dir) (d : Device) : Device :=
  if d.aru.selDir = value then d
  else judgeShadow (zeroRollaway { d with aru := { d.aru with selDir := value } })

/-- SELECT_DIRECTION judged (R169). -/
def askSelectDirection (value : Option (Option Dir)) (d : Device) : Answered :=
  match value with
  | none => refuse .range d
  | some x =>
    judged [(d.odu.standstill, .notStandstill), (d.aru.auth.isNone, .busy)]
      (fun d => accept (selectDir x d)) d

def execSelectDirection (q : Req) (value : Option (Option Dir)) (s : State) :
    Host.Outcome State Fault Refusal :=
  become s (whenUp (request q (askSelectDirection value)) s.dev)

/-- The payload of an AUTHORITY_REQUEST (R170; layout in 11_car_link.md). -/
def requestPayload (d : Device) : List Byte :=
  let f := front d
  [dirByte d.aru.selDir]
    ++ (match f with
        | some c => [2#8] ++ chainageBytes c
        | none => [1#8] ++ bytes24 0#24)
    ++ bytes24 (if d.odu.known then BitVec.ofNat 24 (uncertainty d) else 0#24)
    ++ (match d.aru.auth with
        | some a => bytes16 (BitVec.ofNat 16 a.identity) ++ bytes24 (BitVec.ofNat 24 a.stop)
        | none => bytes16 0#16 ++ bytes24 0#24)

/-- REQUEST_AUTHORITY judged (R170). -/
def askAuthority (d : Device) : Answered :=
  if d.aru.selDir = none then refuse .notAllowed d
  else
    let r := queueEntry .authorityRequest (requestPayload d) d
    match r.2 with
    | some seq => ⟨r.1, none, .seqNumber seq⟩
    | none => ⟨r.1, some .full, .nothing⟩

def execRequestAuthority (q : Req) (s : State) : Host.Outcome State Fault Refusal :=
  become s (whenUp (request q askAuthority) s.dev)

def execGetAuthority (q : Req) (part : Byte) (s : State) : Host.Outcome State Fault Refusal :=
  become s (whenUp (request q (query .authority part (fun d => .authority (authorityView d)))) s.dev)

/-- The first check of R180. -/
def identityReason (identity : Nat) : Option Reason :=
  if inRange 32768 65535 identity then none
  else if inRange 1 32767 identity then some .notAllowed
  else some .range

/-- ADD_RESTRICTION judged (R180). A start and an end are taken whatever their size, since R180 names no
refusal for one above 16,777,215: the model's choice (log 45). -/
def askAddRestriction (identity start stop limit : Nat) (applies : Option AppliesTo) (d : Device) :
    Answered :=
  match identityReason identity, applies with
  | some r, _ => refuse r d
  | none, none => refuse .range d
  | none, some a =>
    judged [(decide (start ≤ stop) && inRange 1 15000 limit, .range),
            ((restrictionFor d.aru.current identity).isSome
              || decide (d.aru.current.length < setRoom), .full)]
      (fun d => accept { d with aru := { d.aru with
        current := putRestriction ⟨identity, start, stop, limit, a, false⟩ d.aru.current } }) d

def execAddRestriction (q : Req) (identity start stop limit : Nat) (applies : Option AppliesTo)
    (s : State) : Host.Outcome State Fault Refusal :=
  become s (whenUp (request q (askAddRestriction identity start stop limit applies)) s.dev)

/-- LIFT_RESTRICTION judged (R180, R178). -/
def askLiftRestriction (identity : Nat) (d : Device) : Answered :=
  match identityReason identity with
  | some r => refuse r d
  | none =>
    judged [((restrictionFor d.aru.current identity).isSome, .notFound)]
      (fun d => accept (judgeRoom { d with aru := { d.aru with
        current := d.aru.current.filter (fun x => x.identity != identity) } })) d

def execLiftRestriction (q : Req) (identity : Nat) (s : State) : Host.Outcome State Fault Refusal :=
  become s (whenUp (request q (askLiftRestriction identity)) s.dev)

/-- ACCEPT_RELAXATIONS (R179). -/
def askAcceptRelaxations (d : Device) : Answered :=
  ⟨updateRestrictions d, none, .count d.aru.staged.length⟩

def execAcceptRelaxations (q : Req) (s : State) : Host.Outcome State Fault Refusal :=
  become s (whenUp (request q askAcceptRelaxations) s.dev)

def execGetRestrictions (q : Req) (part : Byte) (s : State) : Host.Outcome State Fault Refusal :=
  become s
    (whenUp (request q (query .restrictions part (fun d => .restrictions (restrictionsView d)))) s.dev)

end Sys2Proof.Machine
end

