-- ==== Sys2Proof/Machine/Requests.lean ====
section
/-! DEFINITION. A request frame taken from its bytes (R183, R185): the request kinds, the length each
carries, the block that answers, and the fields of the payload. The rows of the command table carry a
request with its fields read; here it comes as bytes, as the car link brings it. -/

namespace Sys2Proof

/-- The request kinds of the car link (R185). -/
def requestKinds : List Nat :=
  [0x01, 0x02, 0x03, 0x04, 0x05, 0x06, 0x07, 0x08, 0x09, 0x10, 0x11, 0x12, 0x13, 0x14, 0x15, 0x16,
   0x17, 0x18, 0x19, 0x1A, 0x20, 0x21, 0x22, 0x23, 0x24, 0x25, 0x26, 0x28, 0x29, 0x2A, 0x2B, 0x2C,
   0x2D, 0x30, 0x31, 0x32, 0x33, 0x34, 0x35, 0x36, 0x37, 0x3F]

end Sys2Proof

namespace Sys2Proof.Machine

/-! ### Lengths (R185, check 3) -/

/-- The payload length of a kind where the manual gives it: the load requests by their layout, the eight
long queries by their part number, and the requests without fields. -/
def fixedLength : Nat → Option Nat
  | 0x03 | 0x04 | 0x05 | 0x06 | 0x07 | 0x08 | 0x09 => some 0
  | 0x10 => some 7
  | 0x11 => some 12
  | 0x12 => some 9
  | 0x13 => some 8
  | 0x14 | 0x15 | 0x16 | 0x25 | 0x32 | 0x36 | 0x3F => some 0
  | 0x19 | 0x1A | 0x23 | 0x26 | 0x2C | 0x30 | 0x33 | 0x37 => some 1
  | _ => none

/-- Whether a payload has the length its kind carries. START_BRAKE_TEST carries two, and a kind that is
no request kind is refused before its length is judged (R185). Lengths that no layout gives are free
values (log 34). -/
def requestFits (kind : Nat) (payload : List Byte) : Bool :=
  match fixedLength kind with
  | some n => payload.length == n
  | none =>
    !requestKinds.contains kind || (kind == 0x24 && payload.isEmpty)
      || payload.length == Config.requestLength kind

/-! ### Fields -/

/-- The number in three or two payload bytes. -/
def bits24 (payload : List Byte) (i : Nat) : BitVec 24 := BitVec.ofNat 24 (field payload i 3)
def bits16 (payload : List Byte) (i : Nat) : BitVec 16 := BitVec.ofNat 16 (field payload i 2)

/-- The first payload byte: a slot index, or the part number of a long query. -/
def firstByte (payload : List Byte) : Byte := payload.getD 0 0#8

/-- The records of the load requests, behind the slot index ("Profile records"). -/
def segmentIn (p : List Byte) : SegmentBytes :=
  ⟨bits24 p 1, p.getD 4 0#8, bits16 p 5, bits16 p 7, bits16 p 9, p.getD 11 0#8⟩

def stationIn (p : List Byte) : StationBytes :=
  ⟨p.getD 1 0#8, bits24 p 2, bits24 p 5, p.getD 8 0#8⟩

def markerIn (p : List Byte) : MarkerRec := ⟨bits16 p 1, bits24 p 3, bits16 p 6⟩

/-- The record of a CONFIGURE_CAR, field by field in record order (R11); the layout is a free value
(log 34). -/
def configIn (p : List Byte) : CarConfig :=
  let n := Config.numberIn 0x01 p
  let side := Config.sideIn 0x01 p
  { carIdentity := n 1, length := n 2, bogieA := n 3, bogieB := n 4, reader := n 5
    side1 := side 6, side2 := side 7, side3 := side 8, side4 := side 9
    rackPitch := n 10, pulsesPerRev := n 11, circInitial := n 12, circMin := n 13, circMax := n 14
    calStep := n 15, calMin := n 16, calMax := n 17, calDeadBand := n 18, wheelGrowth := n 19
    aSb := n 20, aEb := n 21, tSb := n 22, tEb := n 23, sbMargin := n 24, ebMargin := n 25
    blendSpeed := n 26, feedbackTime := n 27, maxRack := n 28, maxAdhesion := n 29
    rackEntryLimit := n 30, degradedCeiling := n 31, lookAhead := n 32, uMax := n 33
    rollAway := n 34, meshTolerance := n 35, silenceTime := n 36, shadowSilence := n 37
    reportInterval := n 38, ackTimeout := n 39, doorAttempts := n 40, reopenDwell := n 41
    testHold := n 42, testSettle := n 43, testCycles := n 44, creepTolerance := n 45
    wakeInterval := n 46, linkSilence := n 47 }

/-- The hold point of a START_BRAKE_TEST, absent in the shorter of its two lengths (R114, R185). -/
def holdIn (p : List Byte) : Option (Nat × Nat) :=
  if p.isEmpty then none else some (Config.numberIn 0x24 p 1, Config.numberIn 0x24 p 2)

/-! ### The owning block's answer (table of R185) -/

/-- What the block that owns a kind answers to a payload of its length; a kind that is no request kind is
refused with UNKNOWN_KIND. -/
def requestBody (kind : Nat) (p : List Byte) : Device → Answered :=
  let n := Config.numberIn kind p
  let part := firstByte p
  match kind with
  | 0x01 => askConfigure (configIn p)
  | 0x02 => askOrientation (Config.dirIn kind p 1)
  | 0x03 => askEnterService
  | 0x04 => askEnterStabled
  | 0x05 => askWake
  | 0x06 => askEnterPreparation
  | 0x07 => askRestart
  | 0x08 => askResetRecord
  | 0x09 => askClearResetRecord
  | 0x10 => askLoadLine (bits24 p 0) (BitVec.ofNat 32 (field p 3 4))
  | 0x11 => askLoadSegment part (segmentIn p)
  | 0x12 => askLoadStation part (stationIn p)
  | 0x13 => askLoadMarker part (markerIn p)
  | 0x14 => askClearLoad
  | 0x15 => askCommit
  | 0x16 => askProfileInfo
  | 0x17 => askSegment (n 1)
  | 0x18 => askSetPosition (n 1) (n 2)
  | 0x19 => query .odometry part (fun d => .odometry (odometryView d))
  | 0x1A => query .supervision part (fun d => .supervision d.ssv)
  | 0x20 => askReaction (n 1) (Config.levelIn kind p 2) (Config.latchIn kind p 3)
  | 0x21 => askAck (n 1)
  | 0x22 => askBrakeRequest (Config.levelIn kind p 1) (n 2)
  | 0x23 => query .demands part (fun d => .demands (demandsView d))
  | 0x24 => askStartTest (holdIn p)
  | 0x25 => askStopTest
  | 0x26 => query .test part (fun d => .test (testView d))
  | 0x28 => askReleaseDoors (Config.sideIn kind p 1)
  | 0x29 => askCloseDoors (Config.sidesIn kind p 1)
  | 0x2A => askIsolate (n 1)
  | 0x2B => askDeisolate (n 1)
  | 0x2C => query .doors part (fun d => .doors (doorsView d))
  | 0x2D => askClearFlags (n 1)
  | 0x30 => query .radio part (fun d => .radio (radioView d))
  | 0x31 => askSelectDirection (Config.selectedIn kind p 1)
  | 0x32 => askAuthority
  | 0x33 => query .authority part (fun d => .authority (authorityView d))
  | 0x34 => askAddRestriction (n 1) (n 2) (n 3) (n 4) (Config.appliesIn kind p 5)
  | 0x35 => askLiftRestriction (n 1)
  | 0x36 => askAcceptRelaxations
  | 0x37 => query .restrictions part (fun d => .restrictions (restrictionsView d))
  | 0x3F => askStatus
  | _ => refuse .unknownKind

/-! ### Frames from bytes (R183) -/

/-- The payload of a complete frame. -/
def framePayload (frame : List Byte) : List Byte := (frame.drop 4).dropLast.dropLast

/-- A valid frame is taken (R185). -/
def takeFrame (frame : List Byte) (d : Device) : Device :=
  let kind := (frame.getD 2 0#8).toNat
  let payload := framePayload frame
  answerFrame ⟨frame.getD 3 0#8, requestFits kind payload⟩ (requestBody kind payload) (hearFrame d)

/-- The complete frames in the bytes in assembly and some that follow, and what stays in assembly. -/
def assembled (bytes : List Byte) (d : Device) : List (List Byte) × List Byte :=
  let all := inAssembly d.clp.rx ++ bytes
  assemble carFrame (all.length + 1) all

/-- The complete frames with a right CRC among them. -/
def validFrames (bytes : List Byte) (d : Device) : List (List Byte) :=
  (assembled bytes d).1.filter crc16Fits

/-- The assembly after some bytes (R183). -/
def keepAssembly (bytes : List Byte) (d : Device) : Device :=
  { d with clp := { d.clp with
      rx := assemblyAfter d.clp.rx bytes (assembled bytes d).2 d.now } }

/-- Bytes of the car link (R183): the valid frames are taken in order, one at a time, each closed as a
command is (log 5); the others are discarded, and the rest stays in assembly (log 22). -/
def takeLinkBytes (bytes : List Byte) (d : Device) : Device :=
  (validFrames bytes d).foldl (fun x f => finish (takeFrame f x)) (keepAssembly bytes d)

end Sys2Proof.Machine
end

