-- ==== Sys2Proof/Machine/LinkCommands.lean ====
section
/-! DEFINITION. The meanings of the commands of chapter 11: GET_STATUS, a frame of an unknown kind, the
frame assembly, the link silence timer and the transmitter. -/

namespace Sys2Proof.Machine

def execGetStatus (q : Req) (s : State) : Host.Outcome State Fault Refusal :=
  become s (whenUp (request q askStatus) s.dev)

/-- UNKNOWN_KIND (R185, check 2). -/
def execUnknownKind (tag _kind : Byte) (s : State) : Host.Outcome State Fault Refusal :=
  become s (whenUp (request ⟨tag, true⟩ (refuse .unknownKind)) s.dev)

def execFrameDiscarded (bytes : List Byte) (s : State) : Host.Outcome State Fault Refusal :=
  become s (whenUp (takeLinkBytes bytes) s.dev)

/-- The 50 ms limit of a frame being assembled (R183). -/
def execFrameAssemblyTimeout (s : State) : Host.Outcome State Fault Refusal :=
  become s (whenUp dropFrame s.dev)

/-- The expiry of the link silence timer (R99, R184). -/
def linkSilenceExpires (d : Device) : Device :=
  if d.clp.silence.isSome then
    setCondition .linkSilent true { d with clp := { d.clp with silence := none } }
  else d

def execLinkSilenceTimerExpiry (s : State) : Host.Outcome State Fault Refusal :=
  become s (whenUp linkSilenceExpires s.dev)

/-- The end of a frame's last byte: the transmitter is idle; behind the RESTART reply the restart takes
place (R14, R186). -/
def frameEnd (d : Device) : Device :=
  match d.clp.tx with
  | some (.reply r) => if r.ofRestart then warmRestart d else freeTransmitter d
  | _ => freeTransmitter d

def execFrameSent (s : State) : Host.Outcome State Fault Refusal := become s (whenUp frameEnd s.dev)

end Sys2Proof.Machine
end

