-- ==== Sys2Proof/Machine/Dispatch.lean ====
section
/-! DEFINITION. The dispatch: one arm for each command, each a call of its meaning. -/

namespace Sys2Proof.Machine

def exec (i : Instr) (s : State) : Host.Outcome State Fault Refusal :=
  match i with
  | .powerOn => Sys2Proof.Machine.execPowerOn s
  | .batterySample deciVolts => Sys2Proof.Machine.execBatterySample deciVolts s
  | .configureCar q record => Sys2Proof.Machine.execConfigureCar q record s
  | .setOrientation q value => Sys2Proof.Machine.execSetOrientation q value s
  | .enterService q => Sys2Proof.Machine.execEnterService q s
  | .enterStabled q => Sys2Proof.Machine.execEnterStabled q s
  | .wake q => Sys2Proof.Machine.execWake q s
  | .enterPreparation q => Sys2Proof.Machine.execEnterPreparation q s
  | .restart q => Sys2Proof.Machine.execRestart q s
  | .warmRestart => Sys2Proof.Machine.execWarmRestart s
  | .getResetRecord q => Sys2Proof.Machine.execGetResetRecord q s
  | .clearResetRecord q => Sys2Proof.Machine.execClearResetRecord q s
  | .wakeTimerExpiry => Sys2Proof.Machine.execWakeTimerExpiry s
  | .loadLine q lineLength version => Sys2Proof.Machine.execLoadLine q lineLength version s
  | .loadSegment q index record => Sys2Proof.Machine.execLoadSegment q index record s
  | .loadStation q index record => Sys2Proof.Machine.execLoadStation q index record s
  | .loadMarker q index record => Sys2Proof.Machine.execLoadMarker q index record s
  | .clearLoad q => Sys2Proof.Machine.execClearLoad q s
  | .commitProfile q => Sys2Proof.Machine.execCommitProfile q s
  | .getProfileInfo q => Sys2Proof.Machine.execGetProfileInfo q s
  | .getSegment q index => Sys2Proof.Machine.execGetSegment q index s
  | .rackToothEdge bogie sense => Sys2Proof.Machine.execRackToothEdge bogie sense s
  | .pinionToothEdge bogie sense => Sys2Proof.Machine.execPinionToothEdge bogie sense s
  | .wheelPulse sense => Sys2Proof.Machine.execWheelPulse sense s
  | .meshWindowEnd bogie sense => Sys2Proof.Machine.execMeshWindowEnd bogie sense s
  | .calibrationWindowEnd => Sys2Proof.Machine.execCalibrationWindowEnd s
  | .markerRead identity => Sys2Proof.Machine.execMarkerRead identity s
  | .setPosition q chainage uncertainty => Sys2Proof.Machine.execSetPosition q chainage uncertainty s
  | .getOdometry q part => Sys2Proof.Machine.execGetOdometry q part s
  | .speedSample handle handleFault => Sys2Proof.Machine.execSpeedSample handle handleFault s
  | .standstillSet => Sys2Proof.Machine.execStandstillSet s
  | .getSupervision q part => Sys2Proof.Machine.execGetSupervision q part s
  | .plungerEdge active => Sys2Proof.Machine.execPlungerEdge active s
  | .setReaction q source level mode => Sys2Proof.Machine.execSetReaction q source level mode s
  | .ackDemand q source => Sys2Proof.Machine.execAckDemand q source s
  | .brakeRequest q level deceleration => Sys2Proof.Machine.execBrakeRequest q level deceleration s
  | .getDemands q part => Sys2Proof.Machine.execGetDemands q part s
  | .feedbackEdge channel released => Sys2Proof.Machine.execFeedbackEdge channel released s
  | .feedbackTimerExpiry channel => Sys2Proof.Machine.execFeedbackTimerExpiry channel s
  | .electricBrakeAvailableEdge active => Sys2Proof.Machine.execElectricBrakeAvailableEdge active s
  | .startBrakeTest q hold => Sys2Proof.Machine.execStartBrakeTest q hold s
  | .stopBrakeTest q => Sys2Proof.Machine.execStopBrakeTest q s
  | .phaseTimerExpiry => Sys2Proof.Machine.execPhaseTimerExpiry s
  | .getTest q part => Sys2Proof.Machine.execGetTest q part s
  | .releaseDoors q side => Sys2Proof.Machine.execReleaseDoors q side s
  | .closeDoors q side => Sys2Proof.Machine.execCloseDoors q side s
  | .isolateDoor q door => Sys2Proof.Machine.execIsolateDoor q door s
  | .deisolateDoor q door => Sys2Proof.Machine.execDeisolateDoor q door s
  | .getDoors q part => Sys2Proof.Machine.execGetDoors q part s
  | .reopenDwellExpiry door => Sys2Proof.Machine.execReopenDwellExpiry door s
  | .pollSent => Sys2Proof.Machine.execPollSent s
  | .doorAnswerReport answer => Sys2Proof.Machine.execDoorAnswerReport answer s
  | .doorAnswerWait answer => Sys2Proof.Machine.execDoorAnswerWait answer s
  | .repeatPoll => Sys2Proof.Machine.execRepeatPoll s
  | .badAnswer bytes => Sys2Proof.Machine.execBadAnswer bytes s
  | .answerWindowClose => Sys2Proof.Machine.execAnswerWindowClose s
  | .clearDoorFlags q unit => Sys2Proof.Machine.execClearDoorFlags q unit s
  | .logonAccept t => Sys2Proof.Machine.execLogonAccept t s
  | .logonTimerExpiry => Sys2Proof.Machine.execLogonTimerExpiry s
  | .silenceTimerExpiry => Sys2Proof.Machine.execSilenceTimerExpiry s
  | .reportIntervalExpiry => Sys2Proof.Machine.execReportIntervalExpiry s
  | .ackTimeoutExpiry seq => Sys2Proof.Machine.execAckTimeoutExpiry seq s
  | .telegramSent => Sys2Proof.Machine.execTelegramSent s
  | .downlinkDiscarded bytes => Sys2Proof.Machine.execDownlinkDiscarded bytes s
  | .telegramAssemblyTimeout => Sys2Proof.Machine.execTelegramAssemblyTimeout s
  | .unknownTelegramKind kind t => Sys2Proof.Machine.execUnknownTelegramKind kind t s
  | .uplinkAck t => Sys2Proof.Machine.execUplinkAck t s
  | .poll t => Sys2Proof.Machine.execPoll t s
  | .authorityGrant t => Sys2Proof.Machine.execAuthorityGrant t s
  | .authorityShorten t => Sys2Proof.Machine.execAuthorityShorten t s
  | .authorityWithdraw t => Sys2Proof.Machine.execAuthorityWithdraw t s
  | .authorityExpiry => Sys2Proof.Machine.execAuthorityExpiry s
  | .restrictionSet t => Sys2Proof.Machine.execRestrictionSet t s
  | .restrictionLift t => Sys2Proof.Machine.execRestrictionLift t s
  | .stopOrder t => Sys2Proof.Machine.execStopOrder t s
  | .stopRelease t => Sys2Proof.Machine.execStopRelease t s
  | .getRadio q part carrier => Sys2Proof.Machine.execGetRadio q part carrier s
  | .selectDirection q value => Sys2Proof.Machine.execSelectDirection q value s
  | .requestAuthority q => Sys2Proof.Machine.execRequestAuthority q s
  | .getAuthority q part => Sys2Proof.Machine.execGetAuthority q part s
  | .addRestriction q identity start stop limit applies => Sys2Proof.Machine.execAddRestriction q identity start stop limit applies s
  | .liftRestriction q identity => Sys2Proof.Machine.execLiftRestriction q identity s
  | .acceptRelaxations q => Sys2Proof.Machine.execAcceptRelaxations q s
  | .getRestrictions q part => Sys2Proof.Machine.execGetRestrictions q part s
  | .getStatus q => Sys2Proof.Machine.execGetStatus q s
  | .unknownKind tag kind => Sys2Proof.Machine.execUnknownKind tag kind s
  | .frameDiscarded bytes => Sys2Proof.Machine.execFrameDiscarded bytes s
  | .frameAssemblyTimeout => Sys2Proof.Machine.execFrameAssemblyTimeout s
  | .linkSilenceTimerExpiry => Sys2Proof.Machine.execLinkSilenceTimerExpiry s
  | .frameSent => Sys2Proof.Machine.execFrameSent s

end Sys2Proof.Machine
end

