-- ==== Sys2Proof/Safety.lean ====
section
/-! DEFINITION. The laws that the manual sets in bold, and the bounds of the part's queues, as predicates
on the device: what a safe run keeps. -/

namespace Sys2Proof.Machine

/-- The 21 entries stand in source-number order (R88). -/
def Bdt.ordered (t : Bdt) : Prop := t.entries.map (·.src) = allSources

/-- The law of the applied level with its governing source (R92), and the law of the hold as one state
shows it (R94): an entry at EMERGENCY stands only under the hold. -/
def Bdt.lawful (t : Bdt) : Prop :=
  t.applied = appliedLevel t.entries ∧ t.governing = governingSource t.entries
    ∧ (anyEmergency t.entries = true → t.hold = true)

/-- The table invariant: the entries in order, the laws of R92 and R94, no hold left at standstill
without an entry at EMERGENCY (R94), and the service deceleration the highest that an entry at SERVICE
asks for (R93). -/
def TableLaw (d : Device) : Prop :=
  d.bdt.ordered ∧ d.bdt.lawful
    ∧ (d.bdt.hold = true → d.odu.standstill = true → anyEmergency d.bdt.entries = true)
    ∧ d.bdt.svcDecel = serviceDecel d.mdc.config d.bdt.entries

/-- The law of traction (R110): permission exactly under the three conditions, and never in CUTOFF
(R121). -/
def TractionLaw (d : Device) : Prop :=
  (d.bau.traction = true →
    d.bdt.applied = .none ∧ d.mdc.mode.inService = true ∧ d.bdt.hold = false)
  ∧ (d.bau.watch ≠ .cutoff → d.bdt.applied = .none → d.mdc.mode.inService = true →
      d.bdt.hold = false → d.bau.traction = true)

/-- The law of the outbox (R161): at most 16 telegrams and at most one unsent position report; no two
entries share a number. -/
def OutboxLaw (d : Device) : Prop :=
  d.vru.outbox.length ≤ outboxRoom ∧ (d.vru.outbox.map (·.seq)).Nodup
    ∧ (d.vru.outbox.filter (fun e => e.queuedOf .positionReport)).length ≤ 1

/-- The law of the sets (R175): at most 16 entries each, no two with one identity; the current set in
identity order (R182). -/
def SetsLaw (d : Device) : Prop :=
  d.aru.current.length ≤ setRoom ∧ (d.aru.current.map (·.identity)).Pairwise (· < ·)
    ∧ d.aru.staged.length ≤ setRoom ∧ (d.aru.staged.map Staged.identity).Nodup

/-- The law of the permitted speed (R75), for E as well. -/
def SpeedLaw (d : Device) : Prop := d.ssv.p ≤ d.ssv.pc ∧ d.ssv.e ≤ d.ssv.pc

/-- The rooms of the notice queue, the reply list, the duplicate window and the ACK list (R159, R160,
R185, R189). -/
def RoomLaw (d : Device) : Prop :=
  d.clp.notices.length ≤ noticeRoom ∧ d.clp.replies.length ≤ replyRoom
    ∧ d.vru.dupWindow.length ≤ windowRoom ∧ d.vru.ackList.length ≤ ackRoom

/-- The load area keeps its canonical form (section 2.2). -/
def LoadLaw (d : Device) : Prop := d.prs.load.wf = true

/-- The outputs are those of the phase in effect or of the table (R106, R107, R109, R110, R115). -/
def OutputsLaw (d : Device) : Prop :=
  d.bau.watch ≠ .cutoff →
    let duty := serviceDuty d.mdc.config d.bdt.svcDecel
    let a := d.bau.channels.a
    let b := d.bau.channels.b
    a.commanded = pattern d .a ∧ (a.releaseValve, a.fullValve) = valvesFor duty (pattern d .a)
      ∧ b.commanded = pattern d .b ∧ (b.releaseValve, b.fullValve) = valvesFor duty (pattern d .b)
      ∧ d.bau.ebLine = emergencyRow d ∧ d.bau.edbDemand = edbDemandOf d
      ∧ d.bau.traction = tractionOf d

/-- Both channels at a commanded state with their valve drives (R105, R107). -/
def BothShow (d : Device) (commanded : Commanded) (release : Bool) (full : ValveDrive) : Prop :=
  let a := d.bau.channels.a
  let b := d.bau.channels.b
  a.commanded = commanded ∧ a.releaseValve = release ∧ a.fullValve = full
    ∧ b.commanded = commanded ∧ b.releaseValve = release ∧ b.fullValve = full

/-- The lines beside the channels: the emergency line and the electric brake demand (R106). -/
def LinesShow (d : Device) (ebLine : Bool) (demand : Nat) : Prop :=
  d.bau.ebLine = ebLine ∧ d.bau.edbDemand = demand

/-- The law of release (R133): a release stands only while nothing calls for its withdrawal, and a door
in use has the order RELEASE only under the release of its side. -/
def ReleaseLaw (d : Device) : Prop :=
  d.bau.watch ≠ .cutoff →
    (∀ rel, d.dcu.release = some rel → releaseMayStand d rel.side = true)
    ∧ (∀ n, (d.dcu.doors.get n).order = .release → (d.dcu.doors.get n).state ≠ .isolated →
        ∃ rel, d.dcu.release = some rel ∧ belongsTo d n rel.side = true)

/-- The law of the held door (R129): DOOR_HOLD is present exactly while some door is not secured, and
its entry, which is FLOW at SERVICE or above (R84), is ACTIVE exactly while it is present. A reopen dwell
runs only for a REVERSING door (R134), and an attempt count is at most 5 (R124). -/
def DoorHoldLaw (d : Device) : Prop :=
  d.bdt.ordered ∧ (d.bau.watch ≠ .cutoff → d.bdt.present .doorHold = !allSecured d)
    ∧ (∀ e ∈ d.bdt.entries, e.src = .doorHold →
        e.mode = .flow ∧ Level.service.rank ≤ e.cfgLevel.rank
          ∧ ((e.state = .active ∧ e.cond = true) ∨ (e.state = .idle ∧ e.cond = false)))
    ∧ (∀ n, (d.dcu.doors.get n).dwell ≠ none → (d.dcu.doors.get n).state = .reversing)
    ∧ ∀ n, (d.dcu.doors.get n).attempts ≤ 5

/-- The law of service (R113) with R3 and R4: outside PREPARATION configuration and profile are valid and
the test record is PASSED; a running test means PREPARATION; the wake timer runs only in WAKING (R7);
the causes are as their owners report them; SERVICE means none and DEGRADED some. -/
def ServiceLaw (d : Device) : Prop :=
  d.bau.watch ≠ .cutoff →
    (d.mdc.mode ≠ .preparation →
      d.mdc.config ≠ none ∧ d.prs.valid = true ∧ d.bau.test.result = .passed)
    ∧ (d.bau.run ≠ none → d.mdc.mode = .preparation ∧ d.bau.test.result = .running)
    ∧ (d.mdc.wakeTimer ≠ none → d.mdc.mode = .waking)
    ∧ (d.mdc.causePosition, d.mdc.causeRadio) = causesNow d
    ∧ (d.mdc.mode = .service → causesNow d = (false, false))
    ∧ (d.mdc.mode = .degraded → causesNow d ≠ (false, false))

/-- A request is taken (R185): the part is up, no RESTART has been accepted, the reply list has room and
the payload has its length. -/
def Taken (q : Req) (s : State) : Prop :=
  s.dev.bau.watch ≠ .cutoff ∧ (validFrame s.dev).clp.restarting = false
    ∧ (validFrame s.dev).clp.replies.length < replyRoom ∧ q.lengthFits = true

/-- The state in which a device stands in place of another, the queue untouched. -/
def State.put (s : State) (d : Device) : State := { s with dev := d }

/-- The state after a request: the device its block leaves, the reply, and what closes the command. An
idle transmitter is given the reply first (log 52). -/
def State.replied (s : State) (q : Req) (reason : Option Reason) (data : ReplyData) (d : Device) :
    State :=
  s.put (finish (reply q.tag reason data d))

/-- What a safe state keeps. -/
structure Safe (d : Device) : Prop where
  table : TableLaw d
  traction : TractionLaw d
  outbox : OutboxLaw d
  sets : SetsLaw d
  speed : SpeedLaw d
  rooms : RoomLaw d
  load : LoadLaw d
  outputs : OutputsLaw d
  release : ReleaseLaw d
  doorHold : DoorHoldLaw d
  service : ServiceLaw d

end Sys2Proof.Machine

/-! ### The commands that can change a record

Left out are POWER_ON, BATTERY_SAMPLE, WARM_RESTART and FRAME_SENT, which can reset the part, and raw
bytes that hold a valid frame (`validFrames`). -/

namespace Sys2Proof

open Sys2Proof.Machine

/-- The telegrams that are acknowledged, and those whose kind or number the command leaves open. -/
def Instr.isAcknowledged : Instr → Bool
  | .authorityGrant _ | .authorityShorten _ | .authorityWithdraw _ | .restrictionSet _
  | .restrictionLift _ | .stopOrder _ | .stopRelease _ | .unknownTelegramKind _ _
  | .downlinkDiscarded _ => true
  | _ => false

/-- The commands that can change the link state of the radio (R152, R156). -/
def Instr.changesLink : Instr → Bool
  | .configureCar _ _ | .commitProfile _ | .logonAccept _ | .unknownTelegramKind _ _
  | .downlinkDiscarded _ | .silenceTimerExpiry | .speedSample _ _ | .markerRead _
  | .setPosition _ _ _ | .selectDirection _ _ => true
  | _ => false

/-- The commands that can place the car anew or move it (R36 to R47). -/
def Instr.changesPlace : Instr → Bool
  | .rackToothEdge _ _ | .pinionToothEdge _ _ | .wheelPulse _ | .meshWindowEnd _ _
  | .calibrationWindowEnd | .markerRead _ | .setPosition _ _ _ | .setOrientation _ _
  | .configureCar _ _ | .commitProfile _ | .ackDemand _ _ => true
  | _ => false

/-- The requests and the timer that can change the mode (R4 to R9, R114). -/
def Instr.changesMode : Instr → Bool
  | .enterService _ | .enterStabled _ | .wake _ | .enterPreparation _ | .wakeTimerExpiry
  | .startBrakeTest _ _ => true
  | _ => false

/-- The commands that can change a door record or the release record (R124 to R137): those of the doors
and their bus, and those that can withdraw a release (R133). -/
def Instr.changesDoors : Instr → Bool
  | .releaseDoors _ _ | .closeDoors _ _ | .isolateDoor _ _ | .deisolateDoor _ _
  | .reopenDwellExpiry _ | .doorAnswerReport _ | .doorAnswerWait _ | .badAnswer _
  | .answerWindowClose | .feedbackEdge _ _ => true
  | c => c.changesPlace || c.changesMode || c.changesLink

/-- The commands that can change the supervision record (R63, R64). -/
def Instr.changesSupervision : Instr → Bool
  | .speedSample _ _ | .enterStabled _ | .enterPreparation _ | .startBrakeTest _ _ => true
  | _ => false

/-- The eight long queries (R187). -/
def Instr.isLongQuery : Instr → Bool
  | .getOdometry _ _ | .getSupervision _ _ | .getDemands _ _ | .getTest _ _ | .getDoors _ _
  | .getRadio _ _ _ | .getAuthority _ _ | .getRestrictions _ _ => true
  | _ => false

end Sys2Proof
end

