-- ==== Sys2Proof/WellFormed.lean ====
section
/-! DEFINITION. Well-formed commands: operands that the event a row names can carry. Everything a rule
judges and refuses (a range, a mode, a length) is well-formed here; only what no such event can be is
ruled out. -/

namespace Sys2Proof

open Sys2Proof.Machine

/-- A telegram's payload has at most 40 bytes (R157). -/
def Telegram.wf (t : Telegram) : Bool := decide (t.payload.length ≤ 40)

/-- A kind byte that UNKNOWN_KIND can carry (R185, check 2). -/
def isUnknownKind (kind : Byte) : Bool := !requestKinds.contains kind.toNat

/-- Bytes in which no complete frame has a right CRC, as FRAME_DISCARDED needs them (R183). A frame that
they complete with the bytes in assembly is taken where its CRC is right (log 22). -/
def noValidFrame (bytes : List Byte) : Bool :=
  (assemble carFrame (bytes.length + 1) bytes).1.all (fun f => !crc16Fits f)

/-- Six bytes that are no good answer of any unit, as BAD_ANSWER needs them (R144); an answer of
another unit than the one polled is bad as well and is let through by its address. -/
def isBadAnswer (bytes : List Byte) : Bool := bytes.length == 6

/-- A battery sense reading (R120), in tenths of a volt. R120 gives no upper limit; 100.0 V is the
model's choice, and a larger reading is taken as well (log 42). -/
def isReading (deciVolts : Nat) : Bool := decide (deciVolts ≤ 1000)

/-- Whether a command's operands are such as its event can carry. -/
def Instr.wf : Instr → Bool
  | .batterySample r => isReading r
  | .unknownKind _ kind => isUnknownKind kind
  | .frameDiscarded bytes => noValidFrame bytes
  | .badAnswer bytes => isBadAnswer bytes
  | .unknownTelegramKind kind t => downKindOf kind == .unknown && t.wf
  | .logonAccept t | .uplinkAck t | .poll t | .authorityGrant t | .authorityShorten t
  | .authorityWithdraw t | .restrictionSet t | .restrictionLift t | .stopOrder t
  | .stopRelease t => t.wf
  | .powerOn | .configureCar _ _ | .setOrientation _ _ | .enterService _ | .enterStabled _ | .wake _
  | .enterPreparation _ | .restart _ | .warmRestart | .getResetRecord _ | .clearResetRecord _
  | .wakeTimerExpiry | .loadLine _ _ _ | .loadSegment _ _ _ | .loadStation _ _ _
  | .loadMarker _ _ _ | .clearLoad _ | .commitProfile _ | .getProfileInfo _ | .getSegment _ _
  | .rackToothEdge _ _ | .pinionToothEdge _ _ | .wheelPulse _ | .meshWindowEnd _ _
  | .calibrationWindowEnd | .markerRead _ | .setPosition _ _ _ | .getOdometry _ _
  | .speedSample _ _ | .standstillSet | .getSupervision _ _ | .plungerEdge _
  | .setReaction _ _ _ _ | .ackDemand _ _ | .brakeRequest _ _ _ | .getDemands _ _
  | .feedbackEdge _ _ | .feedbackTimerExpiry _ | .electricBrakeAvailableEdge _
  | .startBrakeTest _ _ | .stopBrakeTest _ | .phaseTimerExpiry | .getTest _ _ | .releaseDoors _ _
  | .closeDoors _ _ | .isolateDoor _ _ | .deisolateDoor _ _ | .getDoors _ _
  | .reopenDwellExpiry _ | .pollSent | .doorAnswerReport _ | .doorAnswerWait _ | .repeatPoll
  | .answerWindowClose | .clearDoorFlags _ _ | .logonTimerExpiry | .silenceTimerExpiry
  | .reportIntervalExpiry | .ackTimeoutExpiry _ | .telegramSent | .downlinkDiscarded _
  | .telegramAssemblyTimeout | .authorityExpiry | .getRadio _ _ _ | .selectDirection _ _
  | .requestAuthority _ | .getAuthority _ _ | .addRestriction _ _ _ _ _ _ | .liftRestriction _ _
  | .acceptRelaxations _ | .getRestrictions _ _ | .getStatus _ | .frameAssemblyTimeout
  | .linkSilenceTimerExpiry | .frameSent => true

end Sys2Proof
end

