-- ==== Sys2Proof/Certificates/Slice0/Obligations.lean ====
section
/-! DEFINITION. The statements for the provers. Requests are judged in `validFrame s.dev`: the device
once the request's own frame has restarted the silence timer (R184). -/

open Sys2Proof Sys2Proof.Machine

/-! ### The step, the queue and the reset -/

/-- A step runs the command at the front of the queue with the queue's rest. -/
def Obligations.StepRunsTheFrontCommand : Prop :=
  ∀ (c : Instr) (rest : List Instr) (d : Device), step ⟨d, c :: rest⟩ = exec c ⟨d, rest⟩

/-- On an empty queue one microsecond passes and nothing else changes: the model's choice (log 1). -/
def Obligations.EmptyQueueLetsTimePass : Prop :=
  ∀ d : Device, step ⟨d, []⟩ = .next ⟨{ d with now := d.now + 1 }, []⟩

/-- Every command answers a next state and leaves the rest of the queue as it was, and none moves the
clock (log 1). -/
def Obligations.EveryCommandAnswers : Prop :=
  ∀ (c : Instr) (s : State), ∃ t, exec c s = .next t ∧ t.pending = s.pending ∧ t.dev.now = s.dev.now

/-- Every law of `Safe` holds right after reset. -/
def Obligations.ResetIsSafe : Prop := Safe State.reset.dev

/-- Right after reset: PREPARATION with both DEGRADED causes, no configuration, no orientation, an empty
profile not valid, an unknown position, the MODE entry governing at EMERGENCY with the hold set, no
test, every door UNKNOWN under LOCK, the link OFFLINE, no authority, restriction or stop order, and
STARTED on the line. The two start-up raises of R60 and R140 have been taken (log 3). -/
def Obligations.ResetLeaves : Prop :=
  let d := State.reset.dev
  State.reset.pending = [] ∧ d.mdc = blankMdc ∧ d.prs = emptyPrs ∧ d.odu = blankOdu
    ∧ d.ssv = ssvQuiet ∧ d.bdt.applied = .emergency ∧ d.bdt.governing = some .mode
    ∧ d.bdt.hold = true ∧ d.bdt.svcDecel = 0 ∧ d.bau.test = emptyTest ∧ d.bau.run = none
    ∧ d.bau.ebLine = true ∧ d.bau.traction = false ∧ d.dcu = blankDcu
    ∧ d.dbm.links = blankDbm.links ∧ d.vru.link = .offline ∧ d.vru.dupWindow = []
    ∧ d.aru = blankAru ∧ d.clp.tx = some (.notice (.started .powerOn false))

/-! ### Invariants that every step keeps -/

/-- The table law: after every step the applied level is the highest level in force of the ACTIVE and
HELD entries with NOTIFY as NONE, the governing source is the lowest-numbered entry at it, the service
deceleration is the highest asked for at SERVICE, the hold is set while an entry stands at EMERGENCY, and
it clears exactly when the standstill indication is set and none does. Every reset, the warm restart and
the start-up from CUTOFF, leaves the part with the MODE entry at EMERGENCY and the hold set. -/
def Obligations.TableLawKept : Prop :=
  (∀ s t : State, TableLaw s.dev → step s = .next t →
    TableLaw t.dev ∧ (s.dev.bdt.hold = true → t.dev.bdt.hold = false →
      t.dev.odu.standstill = true ∧ anyEmergency t.dev.bdt.entries = false))
  ∧ (∀ (d : Device) (r : Nat), d.bdt.ordered → ∀ t ∈ [warmRestart d, coldStart r d],
      t.bdt.hold = true ∧ t.bdt.applied = .emergency
        ∧ ∃ e ∈ t.bdt.entries, e.src = .mode ∧ e.state = .active ∧ e.cond = true
            ∧ e.level = .emergency)

/-- The law of traction, kept by every step. -/
def Obligations.TractionLawKept : Prop :=
  ∀ s t : State, TractionLaw s.dev → step s = .next t → TractionLaw t.dev

/-- The law of the outbox, kept by every step. -/
def Obligations.OutboxLawKept : Prop :=
  ∀ s t : State, OutboxLaw s.dev → step s = .next t → OutboxLaw t.dev

/-- The law of the sets, kept by every step. -/
def Obligations.SetsLawKept : Prop :=
  ∀ s t : State, SetsLaw s.dev → step s = .next t → SetsLaw t.dev

/-- The notice queue, the reply list, the duplicate window and the ACK list never outgrow their room. A
notice joins the end of the queue, or finds 32 and sets NOTICES_LOST. An event of the table queues DEMAND
for each entry whose state changed, in source order, then BRAKE_LEVEL where applied level, governing
source or hold changed; an OUTBOX_FULL of the reports it calls for comes behind them (log 24). -/
def Obligations.RoomLawKept : Prop :=
  (∀ s t : State, RoomLaw s.dev → step s = .next t → RoomLaw t.dev)
  ∧ (∀ (n : Notice) (d : Device),
      (d.clp.notices.length < 32 → (notify n d).clp.notices = d.clp.notices ++ [n]
        ∧ (notify n d).clp.lost = d.clp.lost)
      ∧ (32 ≤ d.clp.notices.length → (notify n d).clp.notices = d.clp.notices
        ∧ (notify n d).clp.lost = true))
  ∧ (∀ (f : List Entry → List Entry) (d : Device), d.clp.notices.length ≤ 32 →
      let t := tableEvent f d
      let demands := ((d.bdt.entries.zip t.bdt.entries).filter (fun p => p.1.state != p.2.state)).map
        (fun p => Notice.demand p.2.src p.2.state p.2.cond p.2.level p.2.raisedAt)
      let levels := if t.bdt.applied = d.bdt.applied ∧ t.bdt.governing = d.bdt.governing
          ∧ t.bdt.hold = d.bdt.hold then []
        else [Notice.brakeLevel t.bdt.applied t.bdt.governing t.bdt.hold]
      ∃ fulls : List UplinkKind,
        let all := d.clp.notices ++ demands ++ levels ++ fulls.map Notice.outboxFull
        t.clp.notices = all.take 32 ∧ t.clp.lost = (d.clp.lost || decide (32 < all.length)))

/-- The load area keeps its canonical form. -/
def Obligations.LoadLawKept : Prop :=
  ∀ s t : State, LoadLaw s.dev → step s = .next t → LoadLaw t.dev

/-- The law of the permitted speed, kept by every step. -/
def Obligations.SpeedLawKept : Prop :=
  ∀ s t : State, SpeedLaw s.dev → step s = .next t → SpeedLaw t.dev

/-- The outputs follow the table and the test after every step. With no test running the channels stand by
the rows of R106 with the valve drives of R107: both spring-applied with their valves off in STABLED, under
the hold and at EMERGENCY; both released at NONE, NOTIFY and CUT, and at SERVICE while the blend latch is
clear; at SERVICE with the latch set the full-service valve pulses with the duty svc × 1,000 / A_sb, held
between 200 and 1,000 per mille (200 without a configuration is the model's choice, log 31); at FULL it is
on. The emergency line is on under the hold and at EMERGENCY; the electric brake demand is A_eb there and
at FULL, the service deceleration at SERVICE, each at most 5,000, and else 0. Traction is permitted only at
NONE in SERVICE or DEGRADED without the hold. A phase of a test releases one channel at the most. -/
def Obligations.OutputsLawKept : Prop :=
  (∀ s t : State, OutputsLaw s.dev → step s = .next t → OutputsLaw t.dev)
  ∧ (∀ d : Device, OutputsLaw d → d.bau.watch ≠ .cutoff →
      let emergency := d.bdt.hold = true ∨ d.bdt.applied = .emergency
      let aEb := match d.mdc.config with
        | some c => min 5000 c.aEb
        | none => 0
      (d.bau.run = none →
        ((d.mdc.mode = .stabled ∨ emergency) → BothShow d .springApplied false .off)
        ∧ (d.mdc.mode ≠ .stabled → d.bdt.hold = false →
          ((d.bdt.applied = .none ∨ d.bdt.applied = .notify ∨ d.bdt.applied = .cut) →
              BothShow d .released true .off)
          ∧ (d.bdt.applied = .service → d.bau.blend = false → BothShow d .released true .off)
          ∧ (∀ c, d.bdt.applied = .service → d.bau.blend = true → d.mdc.config = some c →
              BothShow d .serviceApplied true
                (.pulsed (min 1000 (max 200 (d.bdt.svcDecel * 1000 / c.aSb)))))
          ∧ (d.bdt.applied = .service → d.bau.blend = true → d.mdc.config = none →
              BothShow d .serviceApplied true (.pulsed 200))
          ∧ (d.bdt.applied = .full → BothShow d .fullApplied true .on)))
      ∧ (∀ r, d.bau.run = some r →
        d.bau.channels.a.commanded
            = (if r.phase = .bOnly ∧ r.guard = false then .released else .fullApplied)
          ∧ d.bau.channels.b.commanded
            = (if r.phase = .aOnly ∧ r.guard = false then .released else .fullApplied))
      ∧ (emergency → LinesShow d true aEb)
      ∧ (d.bdt.hold = false →
        ((d.bdt.applied = .none ∨ d.bdt.applied = .notify ∨ d.bdt.applied = .cut) →
            LinesShow d false 0)
        ∧ (d.bdt.applied = .service → LinesShow d false (min 5000 d.bdt.svcDecel))
        ∧ (d.bdt.applied = .full → LinesShow d false aEb))
      ∧ (d.bau.traction = true ↔
          d.bdt.applied = .none ∧ (d.mdc.mode = .service ∨ d.mdc.mode = .degraded)
            ∧ d.bdt.hold = false))

/-- The law of release, kept by every step. -/
def Obligations.ReleaseLawKept : Prop :=
  ∀ s t : State, ReleaseLaw s.dev → step s = .next t → ReleaseLaw t.dev

/-- The law of the held door, kept by every step: DOOR_HOLD is present exactly while some door is neither
LOCKED nor ISOLATED, and its entry is ACTIVE exactly then, at SERVICE or above. -/
def Obligations.DoorHoldLawKept : Prop :=
  ∀ s t : State, DoorHoldLaw s.dev → step s = .next t → DoorHoldLaw t.dev

/-- The law of service, kept by every step; the wake timer runs only in WAKING. -/
def Obligations.ServiceLawKept : Prop :=
  ∀ s t : State, ServiceLaw s.dev → step s = .next t → ServiceLaw t.dev

/-- The current profile, the profile valid flag, the configuration and the orientation change only by
CONFIGURE_CAR, SET_ORIENTATION, COMMIT_PROFILE, POWER_ON and BATTERY_SAMPLE; raw bytes that hold a valid
frame may be one of these requests (log 22). -/
def Obligations.ConfigurationAndProfileFrame : Prop :=
  ∀ (c : Instr) (s t : State),
    (∀ q r, c ≠ .configureCar q r) → (∀ q v, c ≠ .setOrientation q v) →
    (∀ q, c ≠ .commitProfile q) → c ≠ .powerOn → (∀ r, c ≠ .batterySample r) →
    (∀ b, c = .frameDiscarded b → validFrames b s.dev = []) →
    exec c s = .next t →
    t.dev.prs.cur = s.dev.prs.cur ∧ t.dev.prs.valid = s.dev.prs.valid
      ∧ t.dev.mdc.config = s.dev.mdc.config ∧ t.dev.mdc.orientation = s.dev.mdc.orientation

/-! ### Power and resets -/

/-- During CUTOFF no command but POWER_ON and BATTERY_SAMPLE changes anything but a line level. -/
def Obligations.CutoffTakesNothing : Prop :=
  ∀ (c : Instr) (s : State), s.dev.bau.watch = .cutoff → c ≠ .powerOn →
    (∀ r, c ≠ .batterySample r) →
    ∃ p : Pins, exec c s = .next (s.put { s.dev with pins := p })

/-- POWER_ON empties the part and waits in CUTOFF with every output de-energised; a sample of 18.0 V or
more then starts it with cause POWER_ON. -/
def Obligations.PowerOnStarts : Prop :=
  ∀ s : State,
    exec .powerOn s = .next (s.put (blankDevice s.dev.now s.dev.pins))
    ∧ (∀ r, 180 ≤ r → ∀ t, exec .powerOn s = .next t →
        ∃ u, exec (.batterySample r) t = .next u ∧ u.dev.mdc.lastCause = .powerOn
          ∧ u.dev.mdc.supplyFlag = false ∧ u.dev.mdc.config = none ∧ u.dev.mdc.orientation = none
          ∧ u.dev.mdc.mode = .preparation ∧ u.dev.prs = emptyPrs ∧ u.dev.dcu = blankDcu
          ∧ u.dev.aru = blankAru ∧ u.dev.bdt.applied = .emergency ∧ u.dev.bdt.hold = true
          ∧ (s.dev.pins.plunger = false → u.dev.bdt.governing = some .mode)
          ∧ u.dev.bau.watch = (if r < 220 then .low else .normal)
          ∧ u.dev.clp.tx = some (.notice (.started .powerOn false)))

/-- BATTERY_SAMPLE. Outside CUTOFF: below 16.5 V the part is cut off, both channels spring-applied with
their drives off, the emergency line on, traction withdrawn, the electric brake demand 0, the test record
NONE, every line silent. Else the first sample after a restart gives LOW below 22.0 V, with SUPPLY_LOW
raised and SUPPLY queued, and NORMAL from 22.0 V without a notice; later NORMAL becomes LOW below 21.0 V
and LOW becomes NORMAL from 22.0 V with the clear, and a reading between leaves the watch. In CUTOFF: below
18.0 V only the reading is kept; from 18.0 V after a supply reset the part starts empty with the cause
SUPPLY and the supply flag set. -/
def Obligations.SupplyWatch : Prop :=
  ∀ (s : State) (r : Nat), let d := s.dev
    (d.bau.watch ≠ .cutoff →
      (r < 165 → ∃ t, exec (.batterySample r) s = .next t ∧ t = s.put (cutOff r d)
        ∧ BothShow t.dev .springApplied false .off ∧ LinesShow t.dev true 0
        ∧ t.dev.bau.traction = false ∧ t.dev.bau.test = ⟨.none, none, none, none, none, 0⟩
        ∧ t.dev.bau.run = none ∧ t.dev.bau.watch = .cutoff ∧ t.dev.bau.reading = r
        ∧ t.dev.bau.resetCause = .supply ∧ t.dev.dbm.trans = none ∧ t.dev.vru.tx = none
        ∧ t.dev.clp.tx = none)
      ∧ (165 ≤ r → d.bau.firstSample = true →
        (r < 220 → exec (.batterySample r) s = .next (s.put (finish (notify (.supply .low r)
          (setCondition .supplyLow true
            { d with bau := { d.bau with reading := r, firstSample := false, watch := .low } })))))
        ∧ (220 ≤ r → exec (.batterySample r) s = .next (s.put (finish
            { d with bau := { d.bau with reading := r, firstSample := false, watch := .normal } }))))
      ∧ (165 ≤ r → d.bau.firstSample = false → d.bau.watch = .normal → r < 210 →
        exec (.batterySample r) s = .next (s.put (finish (notify (.supply .low r)
          (setCondition .supplyLow true
            { d with bau := { d.bau with reading := r, watch := .low } })))))
      ∧ (220 ≤ r → d.bau.firstSample = false → d.bau.watch = .low →
        exec (.batterySample r) s = .next (s.put (finish (notify (.supply .normal r)
          (setCondition .supplyLow false
            { d with bau := { d.bau with reading := r, watch := .normal } })))))
      ∧ (d.bau.firstSample = false →
        ((d.bau.watch = .normal ∧ 210 ≤ r) ∨ (d.bau.watch = .low ∧ 165 ≤ r ∧ r < 220)) →
        exec (.batterySample r) s =
          .next (s.put (finish { d with bau := { d.bau with reading := r } }))))
    ∧ (d.bau.watch = .cutoff →
      (r < 180 → exec (.batterySample r) s =
        .next (s.put { d with bau := { d.bau with reading := r } }))
      ∧ (180 ≤ r → d.bau.resetCause = .supply → ∃ t, exec (.batterySample r) s = .next t
        ∧ t.dev.mdc.lastCause = .supply ∧ t.dev.mdc.supplyFlag = true ∧ t.dev.mdc.config = none
        ∧ t.dev.mdc.orientation = none ∧ t.dev.mdc.mode = .preparation ∧ t.dev.prs = emptyPrs
        ∧ t.dev.aru = blankAru ∧ t.dev.dcu = blankDcu ∧ t.dev.vru.link = .offline
        ∧ t.dev.bdt.applied = .emergency ∧ t.dev.bdt.hold = true
        ∧ t.dev.bau.watch = (if r < 220 then .low else .normal) ∧ t.dev.bau.reading = r
        ∧ t.dev.clp.tx = some (.notice (.started .supply true))))

/-- WARM_RESTART at the end of the RESTART reply's last byte: what it keeps and what it makes new, block by
block; with another frame on the line, or none, no restart takes place (log 18). -/
def Obligations.WarmRestartKeeps : Prop :=
  ∀ s : State, s.dev.bau.watch ≠ .cutoff →
    ((∀ x, s.dev.clp.tx = some (.reply x) → x.ofRestart = false) →
      exec .warmRestart s = .next (s.put (finish s.dev)))
    ∧ (∀ x, s.dev.clp.tx = some (.reply x) → x.ofRestart = true → s.dev.bdt.ordered →
      ∃ t, exec .warmRestart s = .next t ∧
        let o := s.dev
        let d := t.dev
        d.mdc = { o.mdc with mode := .preparation, startUpHold := true, wakeTimer := none,
                             lastCause := .restart, causeRadio := true,
                             causePosition := positionDoubtful d }
        ∧ d.prs = o.prs
        ∧ d.odu = { blankOdu with
            known := o.odu.known, position := o.odu.position, uBase := o.odu.uBase,
            wheelRun := o.odu.wheelRun, conflict := o.odu.conflict, clamp := o.odu.clamp,
            lastMarker := o.odu.lastMarker, calib := o.odu.calib, remainder := o.odu.remainder,
            bogies := d.odu.bogies }
        ∧ d.odu.standstill = false ∧ d.odu.dir = none ∧ d.odu.speed = 0 ∧ d.odu.window = none
        ∧ d.odu.source = .wheel ∧ d.ssv = ssvQuiet
        ∧ d.bdt.entries.map (fun e => (e.src, e.cfgLevel, e.mode))
            = o.bdt.entries.map (fun e => (e.src, e.cfgLevel, e.mode))
        ∧ d.bdt.hold = true ∧ d.bdt.applied = .emergency ∧ d.bdt.handleFaulty = false
        ∧ (∀ e ∈ d.bdt.entries,
            (e.src = .mode → e.state = .active ∧ e.cond = true ∧ e.level = .emergency)
            ∧ (e.src ∉ [Source.mode, .position, .plunger, .doorHold] →
                e.state = .idle ∧ e.cond = false))
        ∧ BothShow d .springApplied false .off
        ∧ d.bau.channels.a.timer = none ∧ d.bau.channels.b.timer = none
        ∧ d.bau.anyFault = false ∧ d.bau.ebLine = true ∧ d.bau.traction = false
        ∧ d.bau.blend = false ∧ d.bau.run = none ∧ d.bau.firstSample = true
        ∧ (o.bau.run = none → d.bau.test = o.bau.test)
        ∧ (o.bau.run ≠ none → d.bau.test.result = .aborted ∧ d.bau.test.endCause = some .restart)
        ∧ d.dcu = blankDcu ∧ d.dbm.links = blankDbm.links ∧ d.dbm.turn = .d1
        ∧ d.vru.link = (if o.mdc.config ≠ none ∧ o.prs.valid = true then .loggingOn else .offline)
        ∧ d.vru.dupWindow = [] ∧ d.vru.ackList = [] ∧ d.vru.silence = none
        ∧ d.vru.reportTimer = none ∧ d.aru = blankAru
        ∧ d.clp.replies = [] ∧ d.clp.snapshot = none ∧ d.clp.silence = none ∧ d.clp.rx = none
        ∧ d.clp.restarting = false
        ∧ d.clp.tx = some (.notice (.started .restart o.mdc.supplyFlag)))

/-! ### Mode Control -/

/-- The nine requests of Mode Control complete: each with the conditions of its rule and its effect. -/
def Obligations.ModeRequestsComplete : Prop :=
  ∀ (q : Req) (s : State), Taken q s →
    let d := validFrame s.dev
    (∀ r, d.mdc.mode = .preparation → d.odu.standstill = true → d.bau.run = none →
        firstBadField r = none →
        exec (.configureCar q r) s = .next (s.replied q none .nothing (configure r d)))
    ∧ (∀ v, d.mdc.mode = .preparation → d.odu.standstill = true →
        exec (.setOrientation q (some v)) s = .next (s.replied q none .nothing
          (placeAgain { d with mdc := { d.mdc with orientation := some v } })))
    ∧ (firstFailure (serviceChecks d) = none →
        exec (.enterService q) s = .next (s.replied q none (.modeEntered (serviceMode d))
          (changeMode (serviceMode d) d)))
    ∧ (d.mdc.mode.inService = true → d.odu.standstill = true → allSecured d = true →
        exec (.enterStabled q) s = .next (s.replied q none .nothing (changeMode .stabled d)))
    ∧ (d.mdc.mode = .waking →
        exec (.enterStabled q) s =
          .next (s.replied q none .nothing (changeMode .stabled (stopWake d))))
    ∧ (d.mdc.mode = .stabled →
        exec (.wake q) s = .next (s.replied q none .nothing (changeMode .waking (startWake d))))
    ∧ (d.odu.standstill = true →
        exec (.enterPreparation q) s =
          .next (s.replied q none .nothing (changeMode .preparation (stopWake d))))
    ∧ (d.odu.standstill = true →
        exec (.restart q) s = .next (s.replied q none .nothing
          { d with clp := { d.clp with restarting := true } }))
    ∧ exec (.getResetRecord q) s =
        .next (s.replied q none (.resetRecord d.mdc.lastCause d.mdc.supplyFlag) d)
    ∧ exec (.clearResetRecord q) s = .next (s.replied q none .nothing
        { d with mdc := { d.mdc with supplyFlag := false } })

/-- ENTER_SERVICE is refused with the reason of the first failing check, and then changes nothing but
the reply list. -/
def Obligations.EnterServiceRefused : Prop :=
  ∀ (q : Req) (s : State), Taken q s →
    let d := validFrame s.dev
    let refused := fun r => exec (.enterService q) s = .next (s.replied q (some r) .nothing d)
    (d.mdc.mode = .waking → refused .busy)
    ∧ (d.mdc.mode ≠ .preparation → d.mdc.mode ≠ .waking → refused .wrongMode)
    ∧ (d.mdc.mode = .preparation → d.mdc.config = none → refused .notConfigured)
    ∧ (∀ c, d.mdc.mode = .preparation → d.mdc.config = some c →
        (d.prs.valid = false → refused .noProfile)
        ∧ (d.prs.valid = true → d.mdc.orientation = none → refused .orientationUnset)
        ∧ (d.prs.valid = true → d.mdc.orientation ≠ none → d.bau.test.result ≠ .passed →
            refused .testNotPassed)
        ∧ (d.prs.valid = true → d.mdc.orientation ≠ none → d.bau.test.result = .passed →
            (d.odu.known = false ∨ c.uMax < uncertainty d) → refused .positionUnknown)
        ∧ (d.prs.valid = true → d.mdc.orientation ≠ none → d.bau.test.result = .passed →
            d.odu.known = true → uncertainty d ≤ c.uMax → d.odu.standstill = false →
            refused .notStandstill))

/-- After a change of mode the MODE entry stands at the level R2 gives for the new mode: IDLE in SERVICE
and DEGRADED, FULL in STABLED and WAKING, and in PREPARATION EMERGENCY while the configuration is not
valid or the start-up hold is set, else FULL. -/
def Obligations.ModeChangeSetsEntry : Prop :=
  ∀ (m : Mode) (d : Device), d.mdc.mode ≠ m →
    (∀ e ∈ d.bdt.entries, e.src = .mode →
      e.mode = .flow ∧ (e.state = .idle ∨ (e.state = .active ∧ e.cond = true))) →
    let t := changeMode m d
    t.mdc.mode = m
      ∧ (∀ e ∈ t.bdt.entries, e.src = .mode →
          (m.inService = true → e.state = .idle ∧ e.level = .none)
          ∧ ((m = .stabled ∨ m = .waking) → e.state = .active ∧ e.level = .full)
          ∧ (m = .preparation → e.state = .active ∧
              e.level = if d.mdc.config = none ∨ d.mdc.startUpHold = true then .emergency else .full))

/-- A CONFIGURE_CAR record with a field out of range is refused with RANGE and that field's number, and
the configuration, the profile and the calibration stay as they were. -/
def Obligations.ConfigureCarRefused : Prop :=
  ∀ (q : Req) (s : State) (r : CarConfig) (n : Nat), Taken q s →
    (validFrame s.dev).mdc.mode = .preparation → (validFrame s.dev).odu.standstill = true →
    (validFrame s.dev).bau.run = none → firstBadField r = some n →
    ∃ t, exec (.configureCar q r) s = .next t
      ∧ t = s.replied q (some .range) (.fieldNumber n) (validFrame s.dev)
      ∧ t.dev.mdc.config = s.dev.mdc.config ∧ t.dev.prs = s.dev.prs
      ∧ t.dev.odu.calib = s.dev.odu.calib

/-- An accepted CONFIGURE_CAR: the record in force, the profile not valid but kept, the link OFFLINE,
the calibration at its start, no calibration window, the orientation kept. -/
def Obligations.ConfigureCarEffect : Prop :=
  ∀ (c : CarConfig) (d : Device),
    let t := configure c d
    t.mdc.config = some c ∧ t.prs = { d.prs with valid := false } ∧ t.vru.link = .offline
      ∧ t.odu.calib = some ⟨c.circInitial, c.calMin, .longer⟩ ∧ t.odu.window = none
      ∧ t.mdc.orientation = d.mdc.orientation ∧ (d.bau.run = none → t.bau.test = d.bau.test)

/-- The expiry of the wake timer gives the update event first and then leaves WAKING for SERVICE or
DEGRADED by the cause set; a stopped timer does nothing. -/
def Obligations.WakeTimerExpiry : Prop :=
  ∀ s : State, s.dev.bau.watch ≠ .cutoff →
    (s.dev.mdc.wakeTimer ≠ none →
      let d := updateRestrictions (stopWake s.dev)
      exec .wakeTimerExpiry s = .next (s.put (finish (changeMode (serviceMode d) d)))
        ∧ d.aru.staged = [])
    ∧ (s.dev.mdc.wakeTimer = none → exec .wakeTimerExpiry s = .next (s.put (finish s.dev)))

/-! ### Profile Store -/

/-- The load requests complete: only the load area changes. -/
def Obligations.LoadRequestsComplete : Prop :=
  ∀ (q : Req) (s : State), Taken q s → (validFrame s.dev).mdc.mode = .preparation →
    let d := validFrame s.dev
    let loaded := fun a => s.replied q none .nothing { d with prs := { d.prs with load := a } }
    let a := d.prs.load
    (∀ l v, exec (.loadLine q l v) s = .next (loaded { a with lineLength := l, version := v }))
    ∧ (∀ i r g, segmentOf r = some g →
        exec (.loadSegment q i r) s =
          .next (loaded { a with segments := putSlot i.toNat g a.segments }))
    ∧ (∀ (i : Byte) r g, i.toNat < 32 → stationOf r = some g →
        exec (.loadStation q i r) s =
          .next (loaded { a with stations := putSlot i.toNat g a.stations }))
    ∧ (∀ (i : Byte) r, i.toNat < 128 → markerAccepted r = true →
        exec (.loadMarker q i r) s =
          .next (loaded { a with markers := putSlot i.toNat r a.markers }))
    ∧ exec (.clearLoad q) s = .next (loaded ⟨0#24, 0#32, [], [], []⟩)

/-- A load request fills the slot it names and no other, in the table of segments (256 slots), of stations
(32) and of markers (128) alike. -/
def Obligations.LoadFillsOneSlot : Prop :=
  ∀ (α : Type) (room i : Nat) (x : α) (table : List (Nat × α)), i < room →
    tableWf room table = true →
    tableWf room (putSlot i x table) = true ∧ slot (putSlot i x table) i = some x
      ∧ ∀ j, j ≠ i → slot (putSlot i x table) j = slot table j

/-- COMMIT_PROFILE: refused with CHECK_FAILED it leaves everything as it was but the reply; accepted it
makes the load area the current profile, with its digest, and sets the valid flag; the position becomes
unknown when the digests differ. -/
def Obligations.CommitProfile : Prop :=
  ∀ (q : Req) (s : State), Taken q s → (validFrame s.dev).mdc.mode = .preparation →
    let d := validFrame s.dev
    (∀ n i, commitFailure d.mdc.config d.prs.load = some (n, i) →
        exec (.commitProfile q) s = .next (s.replied q (some .checkFailed) (.check n i) d))
    ∧ (commitFailure d.mdc.config d.prs.load = none →
        ∃ t, exec (.commitProfile q) s = .next t
          ∧ t.dev.prs = ⟨profileOf d.prs.load, true, d.prs.load⟩
          ∧ t.dev.odu.known = (d.odu.known && d.prs.cur.digest == (profileOf d.prs.load).digest)
          ∧ t.dev.aru = d.aru)

/-- GET_PROFILE_INFO and GET_SEGMENT: what they answer and when GET_SEGMENT is refused; at reset the
current profile is empty and not valid. -/
def Obligations.ProfileQueriesComplete : Prop :=
  (∀ (q : Req) (s : State), Taken q s →
    let d := validFrame s.dev
    let p := d.prs.cur
    exec (.getProfileInfo q) s = .next (s.replied q none
        (.profileInfo d.prs.valid p.lineLength p.version p.digest p.segments.length
          p.stations.length p.markers.length) d)
    ∧ (∀ i, p.segments = [] → exec (.getSegment q i) s =
        .next (s.replied q (some .noProfile) .nothing d))
    ∧ (∀ i, p.segments ≠ [] → p.segments.length ≤ i → exec (.getSegment q i) s =
        .next (s.replied q (some .notFound) .nothing d))
    ∧ (∀ i g, p.segments[i]? = some g →
        let last := match p.segments[i + 1]? with
          | some h => h.start.toNat - 1
          | none => p.lineLength.toNat
        exec (.getSegment q i) s = .next (s.replied q none (.segment g last
          (d.mdc.config.map (fun c => (effectiveLimit c g .up, effectiveLimit c g .down)))) d)))
  ∧ State.reset.dev.prs.valid = false ∧ State.reset.dev.prs.cur = ⟨0#24, 0#32, none, [], [], []⟩

/-- Every chainage of the line lies in the extent of exactly one segment, and none beyond it in any. -/
def Obligations.ExtentsPartitionTheLine : Prop :=
  ∀ (p : Profile), p.segments ≠ [] →
    badStart p.lineLength.toNat 0 none p.segments = none →
    (∀ c : Nat, c ≤ p.lineLength.toNat →
      ∃ x, x ∈ p.extents ∧ x.lo ≤ c ∧ c ≤ x.hi ∧ p.segmentAt c = some x.seg
        ∧ ∀ y ∈ p.extents, y.lo ≤ c → c ≤ y.hi → y = x)
    ∧ (∀ c : Int, c < 0 ∨ (p.lineLength.toNat : Int) < c → p.segmentAt c = none)

/-- The effective limit is the least of the line limit, the car maximum speed for the kind and, for
RACK_ENTRY alone, the rack entry limit. -/
def Obligations.EffectiveLimitIsLeast : Prop :=
  ∀ (c : CarConfig) (g : Segment) (dir : Dir),
    let values := [g.limit dir, if g.kind = .adhesion then c.maxAdhesion else c.maxRack]
      ++ (if g.kind = .rackEntry then [c.rackEntryLimit] else [])
    effectiveLimit c g dir ∈ values ∧ ∀ v ∈ values, effectiveLimit c g dir ≤ v

/-- The braking capability check: G is |g| × 981 / 100 rounded up, and a segment passes when A_sb − G is
at least 300 mm/s². -/
def Obligations.BrakingCapability : Prop :=
  ∀ (aSb : Nat) (g : Segment),
    let m := g.gradient.toInt.natAbs
    m * 981 ≤ 100 * gravityPull m ∧ 100 * gravityPull m < m * 981 + 100
      ∧ (capable aSb g = true ↔ (300 : Int) ≤ (aSb : Int) - gravityPull m)

/-! ### Odometry Unit -/

/-- The edges complete. A rack tooth counts the edge, feeds the mesh record and, from the source bogie,
the calibration window and the distance; a pinion tooth counts the edge and feeds the mesh record. The
window ends are the teeth that end their windows (log 4). The order count, mesh record, calibration
window, distance, and that the source before the edge decides the distance, are the model's choice (log
11). Every counted edge clears the standstill indication and restarts the quiet-sample count. -/
def Obligations.EdgesComplete : Prop :=
  ∀ s : State, s.dev.bau.watch ≠ .cutoff →
    (∀ w x, s.dev.odu.source ≠ .rack w →
        exec (.rackToothEdge w x) s =
          .next (s.put (finish (rackToothMesh w (countEdge s.dev)))))
    ∧ (∀ w x, s.dev.odu.source = .rack w →
        exec (.rackToothEdge w x) s =
          .next (s.put (finish (sourceTooth w x (rackToothMesh w (countEdge s.dev))))))
    ∧ (∀ w x, exec (.pinionToothEdge w x) s =
        .next (s.put (finish (pinionToothMesh w (countEdge s.dev)))))
    ∧ (∀ x, exec (.wheelPulse x) s = .next (s.put (finish (wheelPulse x s.dev))))
    ∧ (∀ w x, (s.dev.odu.bogies.get w).state = .meshed →
        31 ≤ (s.dev.odu.bogies.get w).rackCount →
        exec (.meshWindowEnd w x) s = exec (.rackToothEdge w x) s)
    ∧ (∀ w x, s.dev.odu.source = .rack w → s.dev.odu.window = some x → 63 ≤ x.teeth →
        exec .calibrationWindowEnd s = exec (.rackToothEdge w x.sense) s)
    ∧ (∀ m, exec (.markerRead m) s = .next (s.put (finish (readMarker m s.dev))))
    ∧ (∀ (c : Instr) (t : State), ((∃ w x, c = .rackToothEdge w x) ∨ (∃ w x, c = .pinionToothEdge w x)
          ∨ (∃ x, c = .wheelPulse x)) → exec c s = .next t →
        t.dev.odu.standstill = false ∧ t.dev.odu.quiet = 0 ∧ t.dev.odu.edgeSince = true)

/-- No wheel distance is lost: the whole millimetres taken out and the remainder kept make up what was
there, and less than one millimetre is kept. -/
def Obligations.WheelRemainderIsExact : Prop :=
  ∀ (unit circ : Nat) (sign r : Int), 0 < unit → (sign = 1 ∨ sign = -1) → r.natAbs < unit →
    unit ≤ circ →
    let x := convertPulse unit circ sign r
    sign * (x.1 * unit : Nat) + x.2 = r + sign * circ ∧ x.2.natAbs < unit

/-- The position stays within [0, line length], and a distance that would carry it past an end clamps it
there and sets the clamp flag. Only a distance taken from the wheel adds to the wheel run. -/
def Obligations.PositionIsClamped : Prop :=
  ∀ (d : Device) (wheel : Bool) (mag : Nat) (dir : Dir), d.odu.known = true →
    d.prs.cur.segments ≠ [] →
    let t := movePosition wheel mag (some dir) d
    let n := d.prs.cur.lineLength.toNat
    let p := movedBy dir d.odu.position mag
    t.odu.position ≤ n ∧ t.odu.known = true ∧ t.odu.dir = some dir
      ∧ (0 ≤ p → p ≤ n → (t.odu.position : Int) = p ∧ t.odu.clamp = d.odu.clamp)
      ∧ (p < 0 → t.odu.position = 0 ∧ t.odu.clamp = true)
      ∧ ((n : Int) < p → t.odu.position = n ∧ t.odu.clamp = true)
      ∧ t.odu.wheelRun = (if wheel then d.odu.wheelRun + mag else d.odu.wheelRun)

/-- A marker read: discarded without orientation or configuration; MARKER_UNKNOWN for an identity the
profile does not hold; else the reader stands at the marker's chainage, U is the accuracy, and conflict
is held exactly when the disagreement exceeds U plus the accuracy. -/
def Obligations.MarkerRead : Prop :=
  ∀ (d : Device) (id : BitVec 16),
    ((d.mdc.orientation = none ∨ d.mdc.config = none) → readMarker id d = d)
    ∧ (∀ f c, d.mdc.orientation = some f → d.mdc.config = some c →
        (d.prs.cur.marker id = none → readMarker id d = notify (.markerUnknown id) d)
        ∧ (∀ m, d.prs.cur.marker id = some m →
            let t := readMarker id d
            let p := positionFor c f m.chainage.toNat c.reader
            t.odu.known = true ∧ t.odu.lastMarker = some m.identity
              ∧ (0 ≤ p → p ≤ d.prs.cur.lineLength.toNat → (t.odu.position : Int) = p)
              ∧ (t.odu.conflict = true ↔ d.odu.known = true ∧
                  uncertainty d + m.accuracy.toNat
                    < (linePoint c f d.odu.position c.reader - (m.chainage.toNat : Int)).natAbs)
              ∧ (t.odu.source = d.odu.source →
                  t.odu.uBase = m.accuracy.toNat ∧ t.odu.wheelRun = 0)))

/-- A mesh window of 32 rack teeth: within the tolerance the next window begins, beyond it the bogie goes
to FAULT and MESH is present. -/
def Obligations.MeshWindowJudged : Prop :=
  ∀ (w : Bogie) (d : Device) (c : CarConfig), d.mdc.config = some c → TableLaw d →
    (d.odu.bogies.get w).state = .meshed → (d.odu.bogies.get w).rackCount = 31 →
    let n := (d.odu.bogies.get w).pinionCount
    let t := rackToothMesh w d
    (32 ≤ n + c.meshTolerance → n ≤ 32 + c.meshTolerance →
        t.odu.bogies.get w = ⟨.meshed, 0, 0, (d.odu.bogies.get w).matched, 0⟩)
    ∧ ((n + c.meshTolerance < 32 ∨ 32 + c.meshTolerance < n) →
        (t.odu.bogies.get w).state = .fault ∧ t.bdt.present .mesh = true ∧ t.odu.window = none)

/-- The speed of a sample is the sum of the last four sample distances × 5, saturated at 15,000. -/
def Obligations.SampleSpeed : Prop :=
  ∀ (d : Device) (a b e f : Nat), d.odu.dists = [a, b, e, f] →
    let t := sampleSpeed d
    t.odu.dists = [d.odu.sampleAcc, a, b, e] ∧ t.odu.sampleAcc = 0
      ∧ t.odu.speed = min 15000 ((d.odu.sampleAcc + a + b + e) * 5)

/-- SPEED_SAMPLE, STANDSTILL_SET and SET_POSITION complete. The order of the readers within a sample is
the model's choice (log 14); STANDSTILL_SET is the sample that is the 20th quiet one (log 4). The passenger
alarm is deferred over a no-stop zone: by a raise there, by a sample that finds it ACTIVE there, until a
sample finds the span outside, which makes it ACTIVE, or HELD where its condition has ended; a clear
leaves it DEFERRED. -/
def Obligations.SamplesComplete : Prop :=
  (∀ s : State, s.dev.bau.watch ≠ .cutoff →
    (∀ h f, exec (.speedSample h f) s = .next (s.put (finish (judgeShadow (judgeRelease (refreshBrakes
        (judgeAlarm (sampleHandle h f (evaluate (rackEntryTest (countQuiet (sampleSpeed s.dev)))))))))))
    )
    ∧ (s.dev.odu.standstill = false → s.dev.odu.edgeSince = false → 19 ≤ s.dev.odu.quiet →
        ∃ t, exec .standstillSet s = .next t ∧ t.dev.odu.standstill = true ∧ t.dev.odu.dir = none
          ∧ t.dev.odu.reverseAcc = 0 ∧ t.dev.odu.anyAcc = 0 ∧ t.dev.mdc.startUpHold = false)
    ∧ (∀ q x u, Taken q s → firstFailure (positionChecks x u (validFrame s.dev)) = none →
        ∃ t, exec (.setPosition q x u) s = .next t ∧ t.dev.odu.known = true
          ∧ t.dev.odu.position = x ∧ t.dev.odu.conflict = false ∧ t.dev.odu.clamp = false
          ∧ t.dev.odu.lastMarker = s.dev.odu.lastMarker))
  ∧ (∀ (d : Device) (e : Entry), e ∈ d.bdt.entries → e.src = .passengerAlarm →
      let zone := overNoStop d
      let raised := setCondition .passengerAlarm true d
      let cleared := setCondition .passengerAlarm false d
      let sampled := judgeAlarm d
      (d.bdt.present .passengerAlarm = false → ∃ x ∈ raised.bdt.entries, x.src = .passengerAlarm
          ∧ x.cond = true ∧ x.state = (if zone then .deferred else .active))
      ∧ (e.cond = true → e.state = .deferred → { e with cond := false } ∈ cleared.bdt.entries)
      ∧ (e.state = .active →
          { e with state := if zone then .deferred else .active } ∈ sampled.bdt.entries)
      ∧ (e.state = .deferred → zone = true → e ∈ sampled.bdt.entries)
      ∧ (e.state = .deferred → zone = false →
          { e with state := if e.cond then .active else .held } ∈ sampled.bdt.entries)
      ∧ ((e.state = .idle ∨ e.state = .held) → e ∈ sampled.bdt.entries))

/-- A vote never leaves the counter at CAL_MAX, and a step keeps the circumference within its bounds. -/
def Obligations.VoteKeepsCounterBelowMax : Prop :=
  ∀ (c : CarConfig) (k : Calib) (v : Leaning) (d : Device), c.calMin < c.calMax →
    k.counter < c.calMax → c.circMin ≤ k.circumference → k.circumference ≤ c.circMax →
    ∃ k', (castVote c k v d).odu.calib = some k' ∧ k'.counter < c.calMax
      ∧ c.circMin ≤ k'.circumference ∧ k'.circumference ≤ c.circMax
      ∧ (k'.circumference = k.circumference ∨ k'.circumference = k.circumference + c.calStep
          ∨ k'.circumference + c.calStep = k.circumference)

/-! ### Speed Supervisor -/

/-- The curve speed: the target speed within the reaction distance (v × t / 1,000 rounded up); beyond it
the square root of v_t² + 2 × a × (d0 − d_r), rounded down, and no more than 15,000. The service curve
takes t_sb and a_s, the emergency curve t_eb and a_e. -/
def Obligations.CurveSpeed : Prop :=
  ∀ v t a d0 vt : Nat,
    let dr := reactionDistance v t
    let x := curveSpeed v t a d0 vt
    let n := vt * vt + 2 * a * (d0 - dr)
    (v * t ≤ 1000 * dr ∧ 1000 * dr < v * t + 1000)
      ∧ (d0 ≤ dr → x = vt)
      ∧ (dr < d0 → x ≤ 15000 ∧ x * x ≤ n ∧ (n < (x + 1) * (x + 1) ∨ x = 15000))
      ∧ (∀ (c : CarConfig) (k : Decels) (g : Target),
          serviceCurve c v k g = curveSpeed v c.tSb k.service g.distance g.speed
          ∧ emergencyCurve c v k g = curveSpeed v c.tEb k.emergency g.distance g.speed)

/-- The ceiling of an evaluation with a direction of travel: no more than the effective limit of any
segment under the span, the limit of any current restriction that overlaps it and applies, the degraded
ceiling in DEGRADED and the rack entry limit while a bogie is ENTERING, and it is one of them or, where
none is lower, 15,000 (log 21). -/
def Obligations.CeilingIsLeast : Prop :=
  ∀ (c : CarConfig) (d : Device) (dir : Dir) (span : Int × Int),
    carSpan d = some span → travelDir d = some dir →
    let pc := (evaluated c d).pc
    let under := fun (x : Extent) => x ∈ d.prs.cur.extents ∧ (x.lo : Int) ≤ span.2 ∧ span.1 ≤ (x.hi : Int)
    let on := fun (r : Restriction) => r ∈ d.aru.current ∧ (r.start : Int) ≤ span.2
      ∧ span.1 ≤ (r.stop : Int)
      ∧ (r.applies = .both ∨ (r.applies = .up ∧ dir = .up) ∨ (r.applies = .down ∧ dir = .down))
    (∀ x, under x → pc ≤ effectiveLimit c x.seg dir)
      ∧ (∀ r, on r → pc ≤ r.limit)
      ∧ (d.mdc.mode = .degraded → pc ≤ c.degradedCeiling)
      ∧ (anyEntering d = true → pc ≤ c.rackEntryLimit)
      ∧ pc ≤ 15000
      ∧ ((∃ x, under x ∧ pc = effectiveLimit c x.seg dir) ∨ (∃ r, on r ∧ pc = r.limit)
          ∨ (d.mdc.mode = .degraded ∧ pc = c.degradedCeiling)
          ∨ (anyEntering d = true ∧ pc = c.rackEntryLimit) ∨ pc = 15000)

/-- The target list: at most 8 entries, nearest first, no two at one distance, each slower than P_c and at
the lowest speed of the candidates at its point; an MA end below P_c stays on it; a dropped point lies
beyond the others. -/
def Obligations.TargetListLaw : Prop :=
  ∀ (pc : Nat) (all : List Target),
    let l := targetList pc all
    l.length ≤ 8 ∧ l.Pairwise (fun x y => x.distance < y.distance)
      ∧ (∀ u ∈ l, u.speed < pc
          ∧ (∃ t ∈ all, t.distance = u.distance ∧ t.speed = u.speed)
          ∧ (∀ t ∈ all, t.speed < pc → t.distance = u.distance → u.speed ≤ t.speed))
      ∧ ((∃ t ∈ all, t.kind = .maEnd ∧ t.speed < pc) → ∃ u ∈ l, u.kind = .maEnd)
      ∧ (∀ t ∈ all, t.speed < pc → (∃ u ∈ l, u.distance = t.distance)
          ∨ (l.length = 8 ∧ ∀ u ∈ l, u.kind ≠ .maEnd → u.distance < t.distance))

/-- P and E are the least of P_c and their curve speeds; the most restrictive target is the nearest whose
service curve speed is P; that its index counts from 0 is the model's choice (log 48). The status and the
two overspeed conditions follow from v, P and E. -/
def Obligations.PermittedSpeedAndStatus : Prop :=
  (∀ (c : CarConfig) (v pc : Nat) (gdOf : Target → Nat) (targets : List Target),
    let r := resultOf c v pc gdOf targets
    let sc := fun t => serviceCurve c v (decelsFor c (gdOf t)) t
    let ec := fun t => emergencyCurve c v (decelsFor c (gdOf t)) t
    r.p ≤ pc ∧ (∀ t ∈ targets, r.p ≤ sc t) ∧ (r.p = pc ∨ ∃ t ∈ targets, r.p = sc t)
      ∧ r.e ≤ pc ∧ (∀ t ∈ targets, r.e ≤ ec t) ∧ (r.e = pc ∨ ∃ t ∈ targets, r.e = ec t)
      ∧ (∀ i, r.most = some i → (∃ t, targets[i]? = some t ∧ sc t = r.p)
          ∧ ∀ j u, j < i → targets[j]? = some u → sc u ≠ r.p)
      ∧ (r.most = none → ∀ t ∈ targets, sc t ≠ r.p))
  ∧ (∀ (c : CarConfig) (d : Device),
    let r := evaluated c d
    r.v = d.odu.speed
      ∧ (r.overspeedSb = true ↔
          r.p + c.sbMargin < r.v ∨ (d.ssv.overspeedSb = true ∧ r.p < r.v))
      ∧ (r.overspeedEb = true ↔
          r.e + c.ebMargin < r.v ∨ (d.ssv.overspeedEb = true ∧ r.e < r.v))
      ∧ (r.status = .intervention ↔ r.overspeedSb = true ∨ r.overspeedEb = true)
      ∧ (r.status = .warning ↔
          r.overspeedSb = false ∧ r.overspeedEb = false ∧ r.p < r.v))

/-! ### The long queries -/

/-- The eight long queries complete: part 0 takes the snapshot and answers its first part, a later part is
read from a snapshot of its own kind, and there is none in any other case; the parts are the contents'
bytes (a free value, log 7) in order, none longer than 57. That there is always a part 0 is the model's
choice (log 23), and so is the CARRIER level as an operand of GET_RADIO (log 26). -/
def Obligations.QueriesComplete : Prop :=
  (∀ (q : Req) (n : Byte) (s : State), Taken q s →
    let answers := fun (i : Instr) (k : QueryKind) (d : Device) (v : Contents) =>
      (n = 0#8 → ∃ b, (partsOf v)[0]? = some b ∧ exec i s = .next (s.replied q none
          (.part 0 (partsOf v).length b) { d with clp := { d.clp with snapshot := some v } }))
      ∧ (∀ w, n ≠ 0#8 → d.clp.snapshot = some w → w.kind = k → exec i s = .next
          (match (partsOf w)[n.toNat]? with
           | some b => s.replied q none (.part n.toNat (partsOf w).length b) d
           | none => s.replied q (some .notFound) .nothing d))
      ∧ (n ≠ 0#8 → (∀ w, d.clp.snapshot = some w → w.kind ≠ k) →
          exec i s = .next (s.replied q (some .notFound) .nothing d))
    let d := validFrame s.dev
    answers (.getOdometry q n) .odometry d (.odometry (odometryView d))
      ∧ answers (.getSupervision q n) .supervision d (.supervision d.ssv)
      ∧ answers (.getDemands q n) .demands d (.demands (demandsView d))
      ∧ answers (.getTest q n) .test d (.test (testView d))
      ∧ answers (.getDoors q n) .doors d (.doors (doorsView d))
      ∧ answers (.getAuthority q n) .authority d (.authority (authorityView d))
      ∧ answers (.getRestrictions q n) .restrictions d (.restrictions (restrictionsView d))
      ∧ (∀ carrier, let r := validFrame (withCarrier carrier s.dev)
          answers (.getRadio q n carrier) .radio r (.radio (radioView r))))
  ∧ (∀ v : Contents, partsOf v ≠ [] ∧ (partsOf v).flatten = Config.queryBytes v
      ∧ (∀ b ∈ partsOf v, b.length ≤ 57) ∧ (∀ b ∈ (partsOf v).dropLast, b.length = 57))

/-! ### Brake Demand Table -/

/-- PLUNGER_EDGE, SET_REACTION, BRAKE_REQUEST and ACK_DEMAND complete: ACK_DEMAND by the rows of its
table, BRAKE_REQUEST with its refusals. -/
def Obligations.DemandCommandsComplete : Prop :=
  ∀ (q : Req) (s : State),
    (s.dev.bau.watch ≠ .cutoff → ∀ a, exec (.plungerEdge a) s =
      .next (s.put (finish (setCondition .plunger a
        { s.dev with pins := { s.dev.pins with plunger := a } }))))
    ∧ (Taken q s →
      let d := validFrame s.dev
      (∀ n src l m, d.mdc.mode = .preparation → sourceOfNat n = some src →
          src.carriesLevel = false → src.floor.rank ≤ l.rank → src.allows m = true →
          exec (.setReaction q n (some l) (some m)) s =
            .next (s.replied q none .nothing (bdtEvent (onEntry src (newRow l m)) d)))
      ∧ (∀ l x, (l = .none ∨ l = .cut ∨ l = .full) → exec (.brakeRequest q (some l) x) s =
          .next (s.replied q none .nothing (raiseWith .linkRequest l none d)))
      ∧ (∀ c x, d.mdc.config = some c → 1 ≤ x → x ≤ c.aSb →
          exec (.brakeRequest q (some .service) x) s =
            .next (s.replied q none .nothing (raiseWith .linkRequest .service (some x) d)))
      ∧ (∀ l x, (l = none ∨ l = some .emergency ∨ l = some .notify) →
          exec (.brakeRequest q l x) s = .next (s.replied q (some .range) .nothing d))
      ∧ (∀ x, d.mdc.config = none → exec (.brakeRequest q (some .service) x) s =
          .next (s.replied q (some .notConfigured) .nothing d))
      ∧ (∀ c x, d.mdc.config = some c → (x = 0 ∨ c.aSb < x) →
          exec (.brakeRequest q (some .service) x) s =
            .next (s.replied q (some .range) .nothing d))
      ∧ (∀ n, (n = 0 ∨ 21 < n) →
          exec (.ackDemand q n) s = .next (s.replied q (some .range) .nothing d))
      ∧ (∀ n src e, sourceOfNat n = some src → d.bdt.entry? src = some e →
          let refused := fun r =>
            exec (.ackDemand q n) s = .next (s.replied q (some r) .nothing d)
          let released := exec (.ackDemand q n) s =
            .next (s.replied q none .nothing (releaseEntry src d))
          (e.cond = true → refused .conditionPresent)
          ∧ (e.cond = false → e.state = .deferred → released)
          ∧ (e.cond = false → (e.state = .idle ∨ (e.mode = .flow ∧ e.state ≠ .deferred)) →
              refused .notHeld)
          ∧ (e.cond = false → e.state = .held → e.mode = .latchStandstill →
              d.odu.standstill = false → refused .notStandstill)
          ∧ (e.cond = false → e.state = .held →
              (e.mode = .latch ∨ (e.mode = .latchStandstill ∧ d.odu.standstill = true)) →
              released)))

/-- The plunger line going active brings the emergency brake at once, whatever else stands: EMERGENCY
applied with PLUNGER governing, the hold set, both channels spring-applied with their release valves off,
the emergency line on, traction withdrawn, and no test running. -/
def Obligations.PlungerStopsTheCar : Prop :=
  ∀ s : State, s.dev.bau.watch ≠ .cutoff → s.dev.bdt.ordered → s.dev.bdt.present .plunger = false →
    (∀ e ∈ s.dev.bdt.entries, e.src = .plunger → e.cfgLevel = .emergency ∧ e.state ≠ .deferred) →
    ∃ t, exec (.plungerEdge true) s = .next t ∧ t.dev.bdt.applied = .emergency
      ∧ t.dev.bdt.governing = some .plunger ∧ t.dev.bdt.hold = true ∧ t.dev.bau.run = none
      ∧ t.dev.bau.channels.a.commanded = .springApplied
      ∧ t.dev.bau.channels.b.commanded = .springApplied
      ∧ t.dev.bau.channels.a.releaseValve = false ∧ t.dev.bau.channels.b.releaseValve = false
      ∧ t.dev.bau.ebLine = true ∧ t.dev.bau.traction = false

/-- The brake handle at a sample: below 50 the entry is IDLE; from 50 to 949 it is ACTIVE at SERVICE with
(reading − 50) × A_sb / 900, or at FULL without a configuration; from 950, or faulty, at FULL. -/
def Obligations.HandleDemand : Prop :=
  ∀ (h : Nat) (f : Bool) (d : Device),
    (∀ e ∈ d.bdt.entries, e.src = .driverHandle → e.mode = .flow ∧
      ((e.state = .idle ∧ e.cond = false) ∨ (e.state = .active ∧ e.cond = true))) →
    ∀ e ∈ (sampleHandle h f d).bdt.entries, e.src = .driverHandle →
      (f = false → h < 50 → e.state = .idle ∧ e.level = .none ∧ e.cond = false)
      ∧ (∀ c, f = false → 50 ≤ h → h < 950 → d.mdc.config = some c →
          e.state = .active ∧ e.level = .service
            ∧ e.shownDecel = some ((h - 50) * c.aSb / 900))
      ∧ (f = false → 50 ≤ h → d.mdc.config = none → e.state = .active ∧ e.level = .full)
      ∧ ((f = true ∨ 950 ≤ h) → e.state = .active ∧ e.level = .full)

/-! ### Brake Actuation Unit -/

/-- The commands of the Brake Actuation Unit complete. START_BRAKE_TEST is refused with the reason of its
first failing check; a phase that begins at standstill drives the channels to its pattern, and none
releases both. -/
def Obligations.BrakeCommandsComplete : Prop :=
  (∀ s : State, s.dev.bau.watch ≠ .cutoff →
    (∀ ch r, exec (.feedbackEdge ch r) s =
      .next (s.put (finish (feedbackEdge ch r (withContact ch r s.dev)))))
    ∧ (∀ ch, (s.dev.bau.channels.ofChannel ch).timer ≠ none →
        let stopped := { s.dev.bau.channels.ofChannel ch with timer := none }
        exec (.feedbackTimerExpiry ch) s = .next (s.put (finish (judgeChannel ch { s.dev with bau :=
          { s.dev.bau with channels := s.dev.bau.channels.setChannel ch stopped } }))))
    ∧ (∀ ch, (s.dev.bau.channels.ofChannel ch).timer = none →
        exec (.feedbackTimerExpiry ch) s = .next (s.put (finish s.dev)))
    ∧ (∀ a, exec (.electricBrakeAvailableEdge a) s = .next (s.put (finish
        (refreshBrakes { s.dev with pins := { s.dev.pins with edbAvail := a } }))))
    ∧ (∀ r, s.dev.bau.run = some r → r.timer ≠ none →
        exec .phaseTimerExpiry s = .next (s.put (finish (nextPhase r s.dev))))
    ∧ ((∀ r, s.dev.bau.run = some r → r.timer = none) →
        exec .phaseTimerExpiry s = .next (s.put (finish s.dev)))
    ∧ (∀ q, Taken q s →
        let d := validFrame s.dev
        (∀ h, firstFailure (testChecks h d) = none →
            exec (.startBrakeTest q h) s = .next (s.replied q none .nothing (startTest h d)))
        ∧ (∀ h r, firstFailure (testChecks h d) = some r →
            exec (.startBrakeTest q h) s = .next (s.replied q (some r) .nothing d))
        ∧ (∀ r, d.bau.run = some r → exec (.stopBrakeTest q) s = .next (s.replied q none .nothing
            (endTest (stoppedResult d.bau.test r) .stopped d)))
        ∧ (d.bau.run = none →
            exec (.stopBrakeTest q) s = .next (s.replied q (some .notAllowed) .nothing d))))
  ∧ (∀ (p : Phase) (k : Nat) (d : Device), d.odu.standstill = true →
      let t := beginPhase p k d
      ∃ r, t.bau.run = some r ∧ r.phase = p ∧ r.cycle = k ∧ r.movement = 0 ∧ r.guard = false
        ∧ t.bau.test.phaseReached = some p ∧ t.bau.test.cycleReached = some k
        ∧ t.bau.test.result = d.bau.test.result
        ∧ t.bau.channels.a.commanded = (if p = .bOnly then .released else .fullApplied)
        ∧ t.bau.channels.b.commanded = (if p = .aOnly then .released else .fullApplied))

/-! ### Doors and the door bus -/

/-- The door requests and the reopen dwell complete; RELEASE_DOORS is refused with the reason of its first
failing check. An attempt count that stands at 5 stays there: the model's choice (log 35). -/
def Obligations.DoorCommandsComplete : Prop :=
  ∀ (q : Req) (s : State),
    (Taken q s →
      let d := validFrame s.dev
      (∀ x, firstFailure (releaseChecks (some x) d) = none →
          exec (.releaseDoors q (some x)) s = .next (s.replied q none .nothing (grantRelease x d)))
      ∧ (∀ x r, firstFailure (releaseChecks x d) = some r →
          exec (.releaseDoors q x) s = .next (s.replied q (some r) .nothing d))
      ∧ (∀ x, (x = .both ∨ d.mdc.config ≠ none) →
          exec (.closeDoors q (some x)) s = .next (s.replied q none .nothing (closeDoors x d)))
      ∧ (∀ k n, doorOfNat k = some n → d.odu.standstill = true →
          exec (.isolateDoor q k) s = .next (s.replied q none .nothing (isolate n d)))
      ∧ (∀ k n, doorOfNat k = some n → d.odu.standstill = true →
          (d.dcu.doors.get n).state = .isolated →
          exec (.deisolateDoor q k) s = .next (s.replied q none .nothing
            (judgeDoorConditions (setDoor n ⟨.unknown, .lock, 0, none, none⟩ d))))
      ∧ (exec (.clearDoorFlags q 0) s = .next (s.replied q none .nothing
          { d with dbm := { d.dbm with links := d.dbm.links.map clearFlags } }))
      ∧ (∀ k n, doorOfNat k = some n → exec (.clearDoorFlags q k) s =
          .next (s.replied q none .nothing (mapLink n clearFlags d)))
      ∧ (∀ k, 4 < k → exec (.clearDoorFlags q k) s =
          .next (s.replied q (some .range) .nothing d)))
    ∧ (s.dev.bau.watch ≠ .cutoff → ∀ n, let r := s.dev.dcu.doors.get n
      (∀ c, r.dwell ≠ none → s.dev.mdc.config = some c →
          c.doorAttempts ≤ min 5 (r.attempts + 1) →
          exec (.reopenDwellExpiry n) s = .next (s.put (finish (setDoor n
            { r with dwell := none, attempts := min 5 (r.attempts + 1), state := .obstructed }
            s.dev))))
      ∧ (∀ c, r.dwell ≠ none → s.dev.mdc.config = some c →
          min 5 (r.attempts + 1) < c.doorAttempts →
          exec (.reopenDwellExpiry n) s = .next (s.put (finish (setDoor n
            { r with dwell := none, attempts := min 5 (r.attempts + 1), order := .close } s.dev))))
      ∧ (r.dwell = none → exec (.reopenDwellExpiry n) s = .next (s.put (finish s.dev))))

/-- The door bus completes: the end of a poll opens the window; a good report is taken and clears the
misses; a WAIT schedules a repeat poll within the wait bound and is a miss beyond it; a bad answer and a
closed window are misses, the third in a row loses the link; bytes outside a window are discarded. A poll
is five bytes whose CRC-8 comes out at 0. A report is recorded and takes its door to FAULT, to REVERSING
or to the state that leaf and lock give, and DOOR_HOLD, DOOR_MOVING and PASSENGER_ALARM follow it. -/
def Obligations.DoorBusCompletes : Prop :=
  (∀ s : State, s.dev.bau.watch ≠ .cutoff →
    (∀ t b, s.dev.dbm.trans = some t → t.stage = .polling b → exec .pollSent s =
      .next (s.put (finish { s.dev with dbm := { s.dev.dbm with
        trans := some { t with stage := .window s.dev.now } } })))
    ∧ (∀ t o, s.dev.dbm.trans = some t → t.stage = .window o →
        (∀ a x, a.address = unitByte t.unit → reportOf a = some x →
          exec (.doorAnswerReport a) s = .next (s.put (finish (reportTrans t x s.dev))))
        ∧ (∀ a, a.address ≠ unitByte t.unit ∨ reportOf a = none →
            exec (.doorAnswerReport a) s = .next (s.put (finish (missTrans t false s.dev))))
        ∧ (∀ a, a.address = unitByte t.unit →
            exec (.doorAnswerWait a) s = .next (s.put (finish (waitTrans t s.dev))))
        ∧ (∀ bytes, judgeAnswer t.unit bytes = .bad →
            exec (.badAnswer bytes) s = .next (s.put (finish (missTrans t false s.dev))))
        ∧ exec .answerWindowClose s = .next (s.put (finish (missTrans t false s.dev))))
    ∧ (∀ t o, s.dev.dbm.trans = some t → t.stage = .repeatDue o → exec .repeatPoll s =
        .next (s.put (finish { s.dev with dbm := { s.dev.dbm with trans := some { t with
          stage := formPoll s.dev t.unit (t.repeatNo + 1), repeatNo := t.repeatNo + 1 } } })))
    ∧ ((∀ t o, s.dev.dbm.trans = some t → t.stage ≠ .window o) →
        ∀ i, ((∃ a, i = .doorAnswerReport a) ∨ (∃ a, i = .doorAnswerWait a) ∨ (∃ b, i = .badAnswer b)
          ∨ i = .answerWindowClose) → exec i s = .next (s.put (finish s.dev))))
  ∧ (∀ (t : Trans) (d : Device), t.abandoned = false →
      let l := d.dbm.links.get t.unit
      let m := (missTrans t false d).dbm.links.get t.unit
      m.misses = min 255 (l.misses + 1) ∧ m.missFlag = true
        ∧ m.link = (if 2 ≤ l.misses then .lost else l.link)
        ∧ (∀ x, let g := (reportTrans t x d).dbm.links.get t.unit
            g.misses = 0 ∧ g.link = .ok ∧ g.last = some (x, d.now)))
  ∧ (∀ (t : Trans) (x : Report) (d : Device), t.abandoned = false →
      (d.dcu.doors.get t.unit).state ≠ .isolated →
      let r := d.dcu.doors.get t.unit
      let e := reportTrans t x d
      let g := e.dcu.doors.get t.unit
      let shut := x.leaf = .closed ∧ x.locked = true
      let faulty := x.faultCode ≠ 0#8 ∨ (x.locked = true ∧ x.leaf ≠ .closed)
      let waits := r.state ≠ .fault ∧ ((r.state = .obstructed ∧ r.order = .reopen)
        ∨ (r.state = .reversing ∧ r.dwell ≠ none))
      let blocked := r.order = .close ∧ x.obstruction = true ∧ ¬ shut
      let opened := fun (s : DoorState) => g.state = s
        ∧ g.order = (if r.order = .lock then .close else r.order)
        ∧ g.attempts = (if r.order = .lock then 0 else r.attempts)
      g.last = some x
      ∧ (faulty → r.state = .fault → g = { r with last := some x })
      ∧ (faulty → r.state ≠ .fault → g = { r with
            last := some x, state := .fault, dwell := none,
            order := if r.order = .reopen then .close else r.order })
      ∧ (¬ faulty → r.state = .obstructed → r.order = .reopen → g = { r with last := some x })
      ∧ (¬ faulty → r.state = .reversing → r.dwell ≠ none →
          g = (if shut then { r with last := some x, state := .locked, dwell := none, order := .lock }
               else { r with last := some x }))
      ∧ (¬ faulty → ¬ waits → blocked → ∀ c, d.mdc.config = some c →
          g = { r with
            last := some x, state := .reversing, order := .reopen,
            dwell := some ⟨d.now, c.reopenDwell * 1000000⟩ })
      ∧ (¬ faulty → ¬ waits → ¬ blocked →
          (shut → g.state = .locked
            ∧ g.order = (if r.order = .close ∨ r.order = .reopen then .lock else r.order)
            ∧ g.attempts = r.attempts)
          ∧ (x.leaf = .closed → x.locked = false →
              g.state = (if r.order = .release then .released else .closed) ∧ g.order = r.order)
          ∧ (x.leaf = .opening → opened .opening) ∧ (x.leaf = .open → opened .open)
          ∧ (x.leaf = .closing → opened .closing))
      ∧ (d.bdt.ordered →
          e.bdt.present .doorHold = !allSecured e ∧ e.bdt.present .passengerAlarm = alarmPulled e
          ∧ e.bdt.present .doorMoving = (!allSecured e && (d.bdt.present .doorMoving
              || (!d.odu.standstill && (!x.locked || x.leaf != .closed))))))
  ∧ (∀ (n : DoorNo) (o : Order) (k : Nat) (st : Bool), ∃ crc,
      pollBytes n o k st = [unitByte n, orderByte o, BitVec.ofNat 8 k, boolByte st, crc]
        ∧ crc8 [unitByte n, orderByte o, BitVec.ofNat 8 k, boolByte st, crc] = 0#8)

/-! ### Valley Radio Unit -/

/-- The events of the radio port complete: the logon, silence, report and acknowledgement timers, the
transmitter, the assembly, and the telegrams LOGON_ACCEPT, UPLINK_ACK and POLL. That the raw bytes of
DOWNLINK_DISCARDED go through the assembly, and a valid telegram that they complete is taken, is the
model's choice (log 22). -/
def Obligations.RadioEventsComplete : Prop :=
  ∀ s : State, s.dev.bau.watch ≠ .cutoff →
    let d := s.dev
    let fresh := restartSilence (dropTelegram d)
    (d.vru.logonTimer ≠ none → exec .logonTimerExpiry s = .next (s.put (finish { d with vru :=
        { d.vru with logonTimer := some ⟨d.now, 5000000⟩
                     outbox := d.vru.outbox.map (fun e =>
                       if e.kind = .logon ∧ e.awaiting = true then { e with due := true } else e) } })))
    ∧ (d.vru.link = .online → d.vru.silence ≠ none →
        exec .silenceTimerExpiry s = .next (s.put (finish (linkTo .lost .silence d))))
    ∧ (d.vru.reportTimer ≠ none → exec .reportIntervalExpiry s = .next (s.put (finish (callPosition
        { d with vru := { d.vru with reportTimer := reportIntervalTimer d } }))))
    ∧ (∀ n e, d.vru.outbox.find? (fun x => x.seq == n) = some e → e.timeout ≠ none →
        exec (.ackTimeoutExpiry n) s = .next (s.put (finish
          (if e.sendCount < 3 then mapEntry n (fun x => { x with due := true, timeout := none }) d
           else notify (.reportUndelivered e.seq e.kind) (dropEntry n d)))))
    ∧ (∀ j, d.vru.tx = some j → exec .telegramSent s = .next (s.put (finish
        (match j.entry with
         | none => { d with vru := { d.vru with tx := none } }
         | some n => mapEntry n (fun x => { x with lastSend := some d.now, timeout :=
             if d.vru.link = .online ∧ x.kind ≠ .logon then ackTimer d else none })
             { d with vru := { d.vru with tx := none } }))))
    ∧ (∀ bytes, exec (.downlinkDiscarded bytes) s = .next (s.put (finish (takeModemBytes bytes d))))
    ∧ exec .telegramAssemblyTimeout s =
        .next (s.put (finish { d with vru := { d.vru with rx := none } }))
    ∧ (∀ t, addressed d t = true →
        (∀ k, downKindOf k = .unknown →
          exec (.unknownTelegramKind k t) s = .next (s.put (finish fresh)))
        ∧ ((d.vru.link = .loggingOn ∨ d.vru.link = .lost) →
            (t.payload = [0#8] →
              exec (.logonAccept t) s = .next (s.put (finish (linkTo .online .logonOk fresh))))
            ∧ (t.payload = [1#8] → exec (.logonAccept t) s =
                .next (s.put (finish (linkTo .refused .profileMismatch fresh)))))
        ∧ (d.vru.link = .online → t.payload.length = 3 → exec (.uplinkAck t) s = .next (s.put
            (finish ((ackedNumbers t.payload).foldl (fun x n => acknowledge n x) fresh))))
        ∧ (d.vru.link = .online → t.payload = [] →
            exec (.poll t) s = .next (s.put (finish (callPosition fresh)))))
    ∧ (∀ t, addressed d t = false → ∀ i, (i = .logonAccept t ∨ i = .uplinkAck t ∨ i = .poll t) →
        exec i s = .next (s.put (finish (dropTelegram d))))

/-- A telegram of an acknowledged kind whose number stands in the duplicate window, or whose length does
not fit, is answered and not handed over: the Authority and Restriction Unit and the window stay as they
were. -/
def Obligations.DuplicateIsNotHandedOver : Prop :=
  ∀ (t : Telegram) (s : State) (k : DownKind) (c : Instr),
    (k, c) ∈ [(.authorityGrant, .authorityGrant t), (.authorityShorten, .authorityShorten t),
      (.authorityWithdraw, .authorityWithdraw t), (.restrictionSet, .restrictionSet t),
      (.restrictionLift, .restrictionLift t), (.stopOrder, .stopOrder t),
      (.stopRelease, Instr.stopRelease t)] →
    s.dev.bau.watch ≠ .cutoff → addressed s.dev t = true → letThrough s.dev.vru.link k = true →
    let fresh := restartSilence (dropTelegram s.dev)
    let answered := fun r => exec c s = .next (s.put (finish (pushAck t.seq r fresh)))
      ∧ (finish (pushAck t.seq r fresh)).aru = s.dev.aru
      ∧ (finish (pushAck t.seq r fresh)).vru.dupWindow = s.dev.vru.dupWindow
    (∀ r, k.length = some t.payload.length →
        s.dev.vru.dupWindow.find? (fun w => w.1 == t.seq) = some r → answered r.2)
    ∧ (k.length ≠ some t.payload.length → answered .badTelegram)

/-! ### Authority and Restriction Unit -/

/-- The seven telegrams of the Authority and Restriction Unit complete: a new one is handed over whole,
its result entered in the window and in the ACK list, and a SHORTEN never carries the end onward. A GRANT
gives the result of the first of its five checks that applies, and only APPLIED changes the record. The
expiry of the authority withdraws it; a withdrawal at standstill leaves none. -/
def Obligations.AuthorityTelegramsComplete : Prop :=
  (∀ (t : Telegram) (s : State) (k : DownKind) (c : Instr),
    (k, c) ∈ [(.authorityGrant, .authorityGrant t), (.authorityShorten, .authorityShorten t),
      (.authorityWithdraw, .authorityWithdraw t), (.restrictionSet, .restrictionSet t),
      (.restrictionLift, .restrictionLift t), (.stopOrder, .stopOrder t),
      (.stopRelease, Instr.stopRelease t)] →
    s.dev.bau.watch ≠ .cutoff → addressed s.dev t = true → letThrough s.dev.vru.link k = true →
    k.length = some t.payload.length → (∀ w ∈ s.dev.vru.dupWindow, w.1 ≠ t.seq) →
    let r := handToAru k t.payload (restartSilence (dropTelegram s.dev))
    exec c s = .next (s.put (finish (pushAck t.seq r.2 (enterWindow t.seq r.2 r.1)))))
  ∧ (∀ s : State, s.dev.bau.watch ≠ .cutoff →
      (s.dev.aru.timer ≠ none →
        exec .authorityExpiry s = .next (s.put (finish (withdrawAuthority s.dev))))
      ∧ (s.dev.aru.timer = none → exec .authorityExpiry s = .next (s.put (finish s.dev))))
  ∧ (∀ (p : List Byte) (d : Device) (a : Authority), d.aru.auth = some a →
      ∃ b, (takeShorten p d).1.aru.auth = some b ∧ b.identity = a.identity ∧ b.dir = a.dir
        ∧ (b.stop = a.stop ∨ b.stop = field p 0 3)
        ∧ (a.dir = .up → b.stop ≤ a.stop) ∧ (a.dir = .down → a.stop ≤ b.stop))
  ∧ (∀ d : Device, d.odu.standstill = true → (withdrawAuthority d).aru.auth = none)
  ∧ (∀ (p : List Byte) (d : Device),
      let identity := field p 0 2
      let dir := dirOfByte (p.getD 2 0#8)
      let stop := field p 3 3
      let expiry := field p 6 2
      let valid := identity ≠ 0 ∧ dir ≠ none ∧ (expiry = 0 ∨ (10 ≤ expiry ∧ expiry ≤ 3600))
      (¬ valid → takeGrant p d = (d, .invalid))
      ∧ ∀ x, valid → dir = some x →
        (d.aru.selDir ≠ some x → takeGrant p d = (d, .wrongDirection))
        ∧ (d.aru.selDir = some x → frontIn d x = none → takeGrant p d = (d, .noPosition))
        ∧ ∀ f, d.aru.selDir = some x → frontIn d x = some f →
          let behind := (x = .up ∧ (stop : Int) < f) ∨ (x = .down ∧ f < (stop : Int))
          (behind → takeGrant p d = (d, .behindCar))
          ∧ (¬ behind → (takeGrant p d).2 = .applied ∧ (takeGrant p d).1.aru = { d.aru with
              auth := some ⟨identity, x, stop, if expiry = 0 then none else some expiry, false⟩,
              timer := if expiry = 0 then none else some ⟨d.now, expiry * 1000000⟩ }))

/-- A change from the valley never relaxes at once: wherever a current restriction held a direction of a
chainage to a speed before a RESTRICTION_SET or RESTRICTION_LIFT, one holds it to that speed after. -/
def Obligations.ValleyNeverRelaxesAtOnce : Prop :=
  ∀ (p : List Byte) (d : Device) (x v : Nat) (dir : Dir),
    let held := fun (e : Device) => ∃ r ∈ e.aru.current, r.start ≤ x ∧ x ≤ r.stop ∧ r.limit ≤ v
      ∧ r.appliesTo dir = true
    held d → held (takeRestriction p d).1 ∧ held (takeLift p d).1

/-- The requests of the Authority and Restriction Unit complete. ACCEPT_RELAXATIONS applies the staged
changes and empties the pending set. That ADD_RESTRICTION takes a start and an end of any size is the
model's choice (log 45). -/
def Obligations.AuthorityRequestsComplete : Prop :=
  ∀ (q : Req) (s : State), Taken q s →
    let d := validFrame s.dev
    (∀ x, d.odu.standstill = true → d.aru.auth = none →
        exec (.selectDirection q (some x)) s = .next (s.replied q none .nothing (selectDir x d)))
    ∧ (d.aru.selDir ≠ none → roomFor d = true → ∃ n,
        (queueEntry .authorityRequest (requestPayload d) d).2 = some n
          ∧ exec (.requestAuthority q) s = .next (s.replied q none (.seqNumber n)
              (queueEntry .authorityRequest (requestPayload d) d).1))
    ∧ (d.aru.selDir ≠ none → roomFor d = false → exec (.requestAuthority q) s =
        .next (s.replied q (some .full) .nothing (notify (.outboxFull .authorityRequest) d)))
    ∧ (d.aru.selDir = none → exec (.requestAuthority q) s =
        .next (s.replied q (some .notAllowed) .nothing d))
    ∧ (∀ i a b l p, 32768 ≤ i → i ≤ 65535 → a ≤ b → 1 ≤ l → l ≤ 15000 →
        ((restrictionFor d.aru.current i).isSome = true ∨ d.aru.current.length < 16) →
        exec (.addRestriction q i a b l (some p)) s = .next (s.replied q none .nothing
          { d with aru := { d.aru with
              current := putRestriction ⟨i, a, b, l, p, false⟩ d.aru.current } }))
    ∧ (∀ i, 32768 ≤ i → i ≤ 65535 → (restrictionFor d.aru.current i).isSome = true →
        exec (.liftRestriction q i) s = .next (s.replied q none .nothing
          (judgeRoom { d with aru := { d.aru with
              current := d.aru.current.filter (fun x => x.identity != i) } })))
    ∧ (∀ i, 1 ≤ i → i ≤ 32767 → exec (.liftRestriction q i) s =
        .next (s.replied q (some .notAllowed) .nothing d))
    ∧ (∃ t, exec (.acceptRelaxations q) s = .next t
        ∧ t = s.replied q none (.count d.aru.staged.length) (updateRestrictions d)
        ∧ t.dev.aru.staged = [] ∧ t.dev.aru.current = d.aru.staged.foldl applyStaged d.aru.current)

/-! ### Car Link Port -/

/-- The commands of the car link complete: GET_STATUS with its 14 values, a frame of an unknown kind, a
payload of the wrong length, no reply to a request while eight replies wait, the assembly, the silence
timer and the transmitter. Raw bytes (log 22) without a valid frame stay in assembly or are discarded;
bytes that complete a valid frame have it taken, by the length and the fields of its kind (where no layout
gives them free values, log 34). A frame of the part begins with A5h, carries 80h with the tag and the
outcome or C0h with tag 0 and the notice number, and its CRC fits; the reason codes are 01h to 13h. -/
def Obligations.LinkCommandsComplete : Prop :=
  (∀ s : State, s.dev.bau.watch ≠ .cutoff →
    (∀ q, Taken q s → let d := validFrame s.dev
      exec (.getStatus q) s = .next (s.replied q none (.status (statusView d))
        { d with clp := { d.clp with lost := false } }))
    ∧ (∀ tag kind, Taken ⟨tag, true⟩ s → exec (.unknownKind tag kind) s =
        .next (s.replied ⟨tag, true⟩ (some .unknownKind) .nothing (validFrame s.dev)))
    ∧ (∀ tag, Taken ⟨tag, true⟩ s → exec (.getStatus ⟨tag, false⟩) s =
        .next (s.replied ⟨tag, false⟩ (some .badLength) .nothing (validFrame s.dev)))
    ∧ (∀ q, replyRoom ≤ s.dev.clp.replies.length → exec (.getStatus q) s =
        .next (s.put (finish (validFrame s.dev))))
    ∧ (∀ bytes, exec (.frameDiscarded bytes) s = .next (s.put (finish (takeLinkBytes bytes s.dev))))
    ∧ (∀ bytes, validFrames bytes s.dev = [] → ∃ rest, exec (.frameDiscarded bytes) s =
        .next (s.put (finish { s.dev with clp := { s.dev.clp with rx := rest } })))
    ∧ (∀ bytes kind tag payload, payload.length ≤ 60 →
        inAssembly s.dev.clp.rx ++ bytes = carFrameBytes kind tag payload →
        exec (.frameDiscarded bytes) s = .next (s.put (finish
          (request ⟨tag, requestFits kind.toNat payload⟩ (requestBody kind.toNat payload) s.dev))))
    ∧ exec .frameAssemblyTimeout s =
        .next (s.put (finish { s.dev with clp := { s.dev.clp with rx := none } }))
    ∧ (s.dev.clp.silence ≠ none → exec .linkSilenceTimerExpiry s = .next (s.put (finish
        (setCondition .linkSilent true { s.dev with clp := { s.dev.clp with silence := none } }))))
    ∧ (s.dev.clp.silence = none → exec .linkSilenceTimerExpiry s = .next (s.put (finish s.dev)))
    ∧ ((∀ r, s.dev.clp.tx = some (.reply r) → r.ofRestart = false) → exec .frameSent s =
        .next (s.put (finish { s.dev with clp := { s.dev.clp with tx := none } })))
    ∧ (∀ r, s.dev.clp.tx = some (.reply r) → r.ofRestart = true →
        exec .frameSent s = .next (s.put (finish (warmRestart s.dev)))))
  ∧ (∀ f : Frame, crc16Fits f.bytes = true ∧ f.bytes[0]? = some 0xA5#8
      ∧ (∀ r, f = .reply r → f.bytes[2]? = some 0x80#8 ∧ f.bytes[3]? = some r.tag
          ∧ f.bytes[4]? = some (match r.reason with
            | none => 0x00#8
            | some x => x.code))
      ∧ (∀ n, f = .notice n → f.bytes[2]? = some 0xC0#8 ∧ f.bytes[3]? = some 0x00#8
          ∧ f.bytes[4]? = some n.number ∧ f.bytes.length ≤ 66))
  ∧ (∀ a : Reason, 1 ≤ a.code.toNat ∧ a.code.toNat ≤ 19 ∧ ∀ b : Reason, a.code = b.code → a = b)

/-! ### The frame of the blocks -/

/-- Ten records of the blocks change only by the commands named for them: the authority and restriction
sets, the odometry record, the rows of the reaction table, the link records of the door bus, the door
records with the release, the supervision record, the record of a brake test while none runs, the radio
link state, the duplicate window and the query snapshot. A reset, and raw bytes that hold a valid frame
(log 22), are left out. -/
def Obligations.BlockFrames : Prop :=
  ∀ (c : Instr) (s t : State), exec c s = .next t →
    c ≠ .powerOn → (∀ r, c ≠ .batterySample r) → c ≠ .warmRestart → c ≠ .frameSent →
    (∀ b, c = .frameDiscarded b → validFrames b s.dev = []) →
    ((∀ x, c ≠ .authorityGrant x) → (∀ x, c ≠ .authorityShorten x) →
      (∀ x, c ≠ .authorityWithdraw x) → (∀ x, c ≠ .restrictionSet x) →
      (∀ x, c ≠ .restrictionLift x) → (∀ x, c ≠ .stopOrder x) → (∀ x, c ≠ .stopRelease x) →
      (∀ k x, c ≠ .unknownTelegramKind k x) → (∀ x, c ≠ .downlinkDiscarded x) →
      c ≠ .authorityExpiry → c ≠ .wakeTimerExpiry →
      (∀ q x, c ≠ .selectDirection q x) → (∀ q i a b l p, c ≠ .addRestriction q i a b l p) →
      (∀ q i, c ≠ .liftRestriction q i) → (∀ q, c ≠ .acceptRelaxations q) →
      (∀ h f, c ≠ .speedSample h f) → c ≠ .standstillSet → t.dev.aru = s.dev.aru)
    ∧ ((∀ w x, c ≠ .rackToothEdge w x) → (∀ w x, c ≠ .pinionToothEdge w x) →
      (∀ x, c ≠ .wheelPulse x) → (∀ w x, c ≠ .meshWindowEnd w x) → c ≠ .calibrationWindowEnd →
      (∀ m, c ≠ .markerRead m) → (∀ q x u, c ≠ .setPosition q x u) →
      (∀ h f, c ≠ .speedSample h f) → c ≠ .standstillSet → (∀ q r, c ≠ .configureCar q r) →
      (∀ q v, c ≠ .setOrientation q v) → (∀ q, c ≠ .commitProfile q) →
      (∀ q n, c ≠ .ackDemand q n) → (∀ q x, c ≠ .selectDirection q x) →
      t.dev.odu = s.dev.odu)
    ∧ ((∀ q n l m, c ≠ .setReaction q n l m) →
      t.dev.bdt.entries.map (fun e => (e.src, e.cfgLevel, e.mode))
        = s.dev.bdt.entries.map (fun e => (e.src, e.cfgLevel, e.mode)))
    ∧ ((∀ a, c ≠ .doorAnswerReport a) → (∀ a, c ≠ .doorAnswerWait a) → (∀ b, c ≠ .badAnswer b) →
      c ≠ .answerWindowClose → (∀ q k, c ≠ .isolateDoor q k) →
      (∀ q u, c ≠ .clearDoorFlags q u) → t.dev.dbm.links = s.dev.dbm.links)
    ∧ (c.changesDoors = false → t.dev.dcu = s.dev.dcu)
    ∧ (c.changesSupervision = false → t.dev.ssv = s.dev.ssv)
    ∧ ((∀ q h, c ≠ .startBrakeTest q h) → s.dev.bau.run = none →
      t.dev.bau.run = none ∧ t.dev.bau.test = s.dev.bau.test)
    ∧ (c.changesLink = false → t.dev.vru.link = s.dev.vru.link)
    ∧ (c.isAcknowledged = false → t.dev.vru.dupWindow = s.dev.vru.dupWindow)
    ∧ (c.isLongQuery = false → t.dev.clp.snapshot = s.dev.clp.snapshot)
end

