-- ==== Sys2Proof/Laws/State.lean ====
section
/-! SUPPORT. The small lemmas of the state: what each named update of the device leaves alone, field by
field, and the state with another device in it. -/

namespace Sys2Proof.Machine

@[simp] theorem State.put_dev (s : State) (d : Device) : (s.put d).dev = d := rfl
@[simp] theorem State.put_pending (s : State) (d : Device) : (s.put d).pending = s.pending := rfl
@[simp] theorem State.put_put (s : State) (d e : Device) : (s.put d).put e = s.put e := rfl
@[simp] theorem become_eq (s : State) (d : Device) : become s d = .next (s.put d) := rfl

/-! ### `tick` -/

@[simp] theorem tick_startAt (d : Device) :
    (tick d).startAt = d.startAt := rfl
@[simp] theorem tick_pins (d : Device) :
    (tick d).pins = d.pins := rfl
@[simp] theorem tick_mdc (d : Device) :
    (tick d).mdc = d.mdc := rfl
@[simp] theorem tick_prs (d : Device) :
    (tick d).prs = d.prs := rfl
@[simp] theorem tick_odu (d : Device) :
    (tick d).odu = d.odu := rfl
@[simp] theorem tick_ssv (d : Device) :
    (tick d).ssv = d.ssv := rfl
@[simp] theorem tick_bdt (d : Device) :
    (tick d).bdt = d.bdt := rfl
@[simp] theorem tick_bau (d : Device) :
    (tick d).bau = d.bau := rfl
@[simp] theorem tick_dcu (d : Device) :
    (tick d).dcu = d.dcu := rfl
@[simp] theorem tick_dbm (d : Device) :
    (tick d).dbm = d.dbm := rfl
@[simp] theorem tick_vru (d : Device) :
    (tick d).vru = d.vru := rfl
@[simp] theorem tick_aru (d : Device) :
    (tick d).aru = d.aru := rfl
@[simp] theorem tick_clp (d : Device) :
    (tick d).clp = d.clp := rfl

/-! ### `withLoad` -/

@[simp] theorem withLoad_now (f : LoadArea → LoadArea) (d : Device) :
    (withLoad f d).now = d.now := rfl
@[simp] theorem withLoad_startAt (f : LoadArea → LoadArea) (d : Device) :
    (withLoad f d).startAt = d.startAt := rfl
@[simp] theorem withLoad_pins (f : LoadArea → LoadArea) (d : Device) :
    (withLoad f d).pins = d.pins := rfl
@[simp] theorem withLoad_mdc (f : LoadArea → LoadArea) (d : Device) :
    (withLoad f d).mdc = d.mdc := rfl
@[simp] theorem withLoad_odu (f : LoadArea → LoadArea) (d : Device) :
    (withLoad f d).odu = d.odu := rfl
@[simp] theorem withLoad_ssv (f : LoadArea → LoadArea) (d : Device) :
    (withLoad f d).ssv = d.ssv := rfl
@[simp] theorem withLoad_bdt (f : LoadArea → LoadArea) (d : Device) :
    (withLoad f d).bdt = d.bdt := rfl
@[simp] theorem withLoad_bau (f : LoadArea → LoadArea) (d : Device) :
    (withLoad f d).bau = d.bau := rfl
@[simp] theorem withLoad_dcu (f : LoadArea → LoadArea) (d : Device) :
    (withLoad f d).dcu = d.dcu := rfl
@[simp] theorem withLoad_dbm (f : LoadArea → LoadArea) (d : Device) :
    (withLoad f d).dbm = d.dbm := rfl
@[simp] theorem withLoad_vru (f : LoadArea → LoadArea) (d : Device) :
    (withLoad f d).vru = d.vru := rfl
@[simp] theorem withLoad_aru (f : LoadArea → LoadArea) (d : Device) :
    (withLoad f d).aru = d.aru := rfl
@[simp] theorem withLoad_clp (f : LoadArea → LoadArea) (d : Device) :
    (withLoad f d).clp = d.clp := rfl

/-! ### `setOutputs` -/

@[simp] theorem setOutputs_now (d : Device) :
    (setOutputs d).now = d.now := rfl
@[simp] theorem setOutputs_startAt (d : Device) :
    (setOutputs d).startAt = d.startAt := rfl
@[simp] theorem setOutputs_pins (d : Device) :
    (setOutputs d).pins = d.pins := rfl
@[simp] theorem setOutputs_mdc (d : Device) :
    (setOutputs d).mdc = d.mdc := rfl
@[simp] theorem setOutputs_prs (d : Device) :
    (setOutputs d).prs = d.prs := rfl
@[simp] theorem setOutputs_odu (d : Device) :
    (setOutputs d).odu = d.odu := rfl
@[simp] theorem setOutputs_ssv (d : Device) :
    (setOutputs d).ssv = d.ssv := rfl
@[simp] theorem setOutputs_bdt (d : Device) :
    (setOutputs d).bdt = d.bdt := rfl
@[simp] theorem setOutputs_dcu (d : Device) :
    (setOutputs d).dcu = d.dcu := rfl
@[simp] theorem setOutputs_dbm (d : Device) :
    (setOutputs d).dbm = d.dbm := rfl
@[simp] theorem setOutputs_vru (d : Device) :
    (setOutputs d).vru = d.vru := rfl
@[simp] theorem setOutputs_aru (d : Device) :
    (setOutputs d).aru = d.aru := rfl
@[simp] theorem setOutputs_clp (d : Device) :
    (setOutputs d).clp = d.clp := rfl

/-! ### `judgeBlend` -/

@[simp] theorem judgeBlend_now (d : Device) :
    (judgeBlend d).now = d.now := rfl
@[simp] theorem judgeBlend_startAt (d : Device) :
    (judgeBlend d).startAt = d.startAt := rfl
@[simp] theorem judgeBlend_pins (d : Device) :
    (judgeBlend d).pins = d.pins := rfl
@[simp] theorem judgeBlend_mdc (d : Device) :
    (judgeBlend d).mdc = d.mdc := rfl
@[simp] theorem judgeBlend_prs (d : Device) :
    (judgeBlend d).prs = d.prs := rfl
@[simp] theorem judgeBlend_odu (d : Device) :
    (judgeBlend d).odu = d.odu := rfl
@[simp] theorem judgeBlend_ssv (d : Device) :
    (judgeBlend d).ssv = d.ssv := rfl
@[simp] theorem judgeBlend_bdt (d : Device) :
    (judgeBlend d).bdt = d.bdt := rfl
@[simp] theorem judgeBlend_dcu (d : Device) :
    (judgeBlend d).dcu = d.dcu := rfl
@[simp] theorem judgeBlend_dbm (d : Device) :
    (judgeBlend d).dbm = d.dbm := rfl
@[simp] theorem judgeBlend_vru (d : Device) :
    (judgeBlend d).vru = d.vru := rfl
@[simp] theorem judgeBlend_aru (d : Device) :
    (judgeBlend d).aru = d.aru := rfl
@[simp] theorem judgeBlend_clp (d : Device) :
    (judgeBlend d).clp = d.clp := rfl

/-! ### `endPhase` -/

@[simp] theorem endPhase_now (d : Device) :
    (endPhase d).now = d.now := rfl
@[simp] theorem endPhase_startAt (d : Device) :
    (endPhase d).startAt = d.startAt := rfl
@[simp] theorem endPhase_pins (d : Device) :
    (endPhase d).pins = d.pins := rfl
@[simp] theorem endPhase_mdc (d : Device) :
    (endPhase d).mdc = d.mdc := rfl
@[simp] theorem endPhase_prs (d : Device) :
    (endPhase d).prs = d.prs := rfl
@[simp] theorem endPhase_odu (d : Device) :
    (endPhase d).odu = d.odu := rfl
@[simp] theorem endPhase_ssv (d : Device) :
    (endPhase d).ssv = d.ssv := rfl
@[simp] theorem endPhase_bdt (d : Device) :
    (endPhase d).bdt = d.bdt := rfl
@[simp] theorem endPhase_dcu (d : Device) :
    (endPhase d).dcu = d.dcu := rfl
@[simp] theorem endPhase_dbm (d : Device) :
    (endPhase d).dbm = d.dbm := rfl
@[simp] theorem endPhase_vru (d : Device) :
    (endPhase d).vru = d.vru := rfl
@[simp] theorem endPhase_aru (d : Device) :
    (endPhase d).aru = d.aru := rfl
@[simp] theorem endPhase_clp (d : Device) :
    (endPhase d).clp = d.clp := rfl

/-! ### `writeTestEnd` -/

@[simp] theorem writeTestEnd_now (r : TestResult) (c : EndCause) (m : Nat) (d : Device) :
    (writeTestEnd r c m d).now = d.now := rfl
@[simp] theorem writeTestEnd_startAt (r : TestResult) (c : EndCause) (m : Nat) (d : Device) :
    (writeTestEnd r c m d).startAt = d.startAt := rfl
@[simp] theorem writeTestEnd_pins (r : TestResult) (c : EndCause) (m : Nat) (d : Device) :
    (writeTestEnd r c m d).pins = d.pins := rfl
@[simp] theorem writeTestEnd_mdc (r : TestResult) (c : EndCause) (m : Nat) (d : Device) :
    (writeTestEnd r c m d).mdc = d.mdc := rfl
@[simp] theorem writeTestEnd_prs (r : TestResult) (c : EndCause) (m : Nat) (d : Device) :
    (writeTestEnd r c m d).prs = d.prs := rfl
@[simp] theorem writeTestEnd_odu (r : TestResult) (c : EndCause) (m : Nat) (d : Device) :
    (writeTestEnd r c m d).odu = d.odu := rfl
@[simp] theorem writeTestEnd_ssv (r : TestResult) (c : EndCause) (m : Nat) (d : Device) :
    (writeTestEnd r c m d).ssv = d.ssv := rfl
@[simp] theorem writeTestEnd_bdt (r : TestResult) (c : EndCause) (m : Nat) (d : Device) :
    (writeTestEnd r c m d).bdt = d.bdt := rfl
@[simp] theorem writeTestEnd_dcu (r : TestResult) (c : EndCause) (m : Nat) (d : Device) :
    (writeTestEnd r c m d).dcu = d.dcu := rfl
@[simp] theorem writeTestEnd_dbm (r : TestResult) (c : EndCause) (m : Nat) (d : Device) :
    (writeTestEnd r c m d).dbm = d.dbm := rfl
@[simp] theorem writeTestEnd_vru (r : TestResult) (c : EndCause) (m : Nat) (d : Device) :
    (writeTestEnd r c m d).vru = d.vru := rfl
@[simp] theorem writeTestEnd_aru (r : TestResult) (c : EndCause) (m : Nat) (d : Device) :
    (writeTestEnd r c m d).aru = d.aru := rfl
@[simp] theorem writeTestEnd_clp (r : TestResult) (c : EndCause) (m : Nat) (d : Device) :
    (writeTestEnd r c m d).clp = d.clp := rfl

/-! ### `notePhaseMovement` -/

@[simp] theorem notePhaseMovement_now (d : Device) :
    (notePhaseMovement d).now = d.now := rfl
@[simp] theorem notePhaseMovement_startAt (d : Device) :
    (notePhaseMovement d).startAt = d.startAt := rfl
@[simp] theorem notePhaseMovement_pins (d : Device) :
    (notePhaseMovement d).pins = d.pins := rfl
@[simp] theorem notePhaseMovement_mdc (d : Device) :
    (notePhaseMovement d).mdc = d.mdc := rfl
@[simp] theorem notePhaseMovement_prs (d : Device) :
    (notePhaseMovement d).prs = d.prs := rfl
@[simp] theorem notePhaseMovement_odu (d : Device) :
    (notePhaseMovement d).odu = d.odu := rfl
@[simp] theorem notePhaseMovement_ssv (d : Device) :
    (notePhaseMovement d).ssv = d.ssv := rfl
@[simp] theorem notePhaseMovement_bdt (d : Device) :
    (notePhaseMovement d).bdt = d.bdt := rfl
@[simp] theorem notePhaseMovement_dcu (d : Device) :
    (notePhaseMovement d).dcu = d.dcu := rfl
@[simp] theorem notePhaseMovement_dbm (d : Device) :
    (notePhaseMovement d).dbm = d.dbm := rfl
@[simp] theorem notePhaseMovement_vru (d : Device) :
    (notePhaseMovement d).vru = d.vru := rfl
@[simp] theorem notePhaseMovement_aru (d : Device) :
    (notePhaseMovement d).aru = d.aru := rfl
@[simp] theorem notePhaseMovement_clp (d : Device) :
    (notePhaseMovement d).clp = d.clp := rfl

/-! ### `clearGuard` -/

@[simp] theorem clearGuard_now (d : Device) :
    (clearGuard d).now = d.now := rfl
@[simp] theorem clearGuard_startAt (d : Device) :
    (clearGuard d).startAt = d.startAt := rfl
@[simp] theorem clearGuard_pins (d : Device) :
    (clearGuard d).pins = d.pins := rfl
@[simp] theorem clearGuard_mdc (d : Device) :
    (clearGuard d).mdc = d.mdc := rfl
@[simp] theorem clearGuard_prs (d : Device) :
    (clearGuard d).prs = d.prs := rfl
@[simp] theorem clearGuard_odu (d : Device) :
    (clearGuard d).odu = d.odu := rfl
@[simp] theorem clearGuard_ssv (d : Device) :
    (clearGuard d).ssv = d.ssv := rfl
@[simp] theorem clearGuard_bdt (d : Device) :
    (clearGuard d).bdt = d.bdt := rfl
@[simp] theorem clearGuard_dcu (d : Device) :
    (clearGuard d).dcu = d.dcu := rfl
@[simp] theorem clearGuard_dbm (d : Device) :
    (clearGuard d).dbm = d.dbm := rfl
@[simp] theorem clearGuard_vru (d : Device) :
    (clearGuard d).vru = d.vru := rfl
@[simp] theorem clearGuard_aru (d : Device) :
    (clearGuard d).aru = d.aru := rfl
@[simp] theorem clearGuard_clp (d : Device) :
    (clearGuard d).clp = d.clp := rfl

/-! ### `forgetPosition` -/

@[simp] theorem forgetPosition_now (d : Device) :
    (forgetPosition d).now = d.now := rfl
@[simp] theorem forgetPosition_startAt (d : Device) :
    (forgetPosition d).startAt = d.startAt := rfl
@[simp] theorem forgetPosition_pins (d : Device) :
    (forgetPosition d).pins = d.pins := rfl
@[simp] theorem forgetPosition_mdc (d : Device) :
    (forgetPosition d).mdc = d.mdc := rfl
@[simp] theorem forgetPosition_prs (d : Device) :
    (forgetPosition d).prs = d.prs := rfl
@[simp] theorem forgetPosition_ssv (d : Device) :
    (forgetPosition d).ssv = d.ssv := rfl
@[simp] theorem forgetPosition_bdt (d : Device) :
    (forgetPosition d).bdt = d.bdt := rfl
@[simp] theorem forgetPosition_bau (d : Device) :
    (forgetPosition d).bau = d.bau := rfl
@[simp] theorem forgetPosition_dcu (d : Device) :
    (forgetPosition d).dcu = d.dcu := rfl
@[simp] theorem forgetPosition_dbm (d : Device) :
    (forgetPosition d).dbm = d.dbm := rfl
@[simp] theorem forgetPosition_vru (d : Device) :
    (forgetPosition d).vru = d.vru := rfl
@[simp] theorem forgetPosition_aru (d : Device) :
    (forgetPosition d).aru = d.aru := rfl
@[simp] theorem forgetPosition_clp (d : Device) :
    (forgetPosition d).clp = d.clp := rfl

/-! ### `mapBogies` -/

@[simp] theorem mapBogies_now (f : Bogie → MeshRec → MeshRec) (d : Device) :
    (mapBogies f d).now = d.now := rfl
@[simp] theorem mapBogies_startAt (f : Bogie → MeshRec → MeshRec) (d : Device) :
    (mapBogies f d).startAt = d.startAt := rfl
@[simp] theorem mapBogies_pins (f : Bogie → MeshRec → MeshRec) (d : Device) :
    (mapBogies f d).pins = d.pins := rfl
@[simp] theorem mapBogies_mdc (f : Bogie → MeshRec → MeshRec) (d : Device) :
    (mapBogies f d).mdc = d.mdc := rfl
@[simp] theorem mapBogies_prs (f : Bogie → MeshRec → MeshRec) (d : Device) :
    (mapBogies f d).prs = d.prs := rfl
@[simp] theorem mapBogies_ssv (f : Bogie → MeshRec → MeshRec) (d : Device) :
    (mapBogies f d).ssv = d.ssv := rfl
@[simp] theorem mapBogies_bdt (f : Bogie → MeshRec → MeshRec) (d : Device) :
    (mapBogies f d).bdt = d.bdt := rfl
@[simp] theorem mapBogies_bau (f : Bogie → MeshRec → MeshRec) (d : Device) :
    (mapBogies f d).bau = d.bau := rfl
@[simp] theorem mapBogies_dcu (f : Bogie → MeshRec → MeshRec) (d : Device) :
    (mapBogies f d).dcu = d.dcu := rfl
@[simp] theorem mapBogies_dbm (f : Bogie → MeshRec → MeshRec) (d : Device) :
    (mapBogies f d).dbm = d.dbm := rfl
@[simp] theorem mapBogies_vru (f : Bogie → MeshRec → MeshRec) (d : Device) :
    (mapBogies f d).vru = d.vru := rfl
@[simp] theorem mapBogies_aru (f : Bogie → MeshRec → MeshRec) (d : Device) :
    (mapBogies f d).aru = d.aru := rfl
@[simp] theorem mapBogies_clp (f : Bogie → MeshRec → MeshRec) (d : Device) :
    (mapBogies f d).clp = d.clp := rfl

/-! ### `setMesh` -/

@[simp] theorem setMesh_now (w : Bogie) (m : MeshRec) (d : Device) :
    (setMesh w m d).now = d.now := rfl
@[simp] theorem setMesh_startAt (w : Bogie) (m : MeshRec) (d : Device) :
    (setMesh w m d).startAt = d.startAt := rfl
@[simp] theorem setMesh_pins (w : Bogie) (m : MeshRec) (d : Device) :
    (setMesh w m d).pins = d.pins := rfl
@[simp] theorem setMesh_mdc (w : Bogie) (m : MeshRec) (d : Device) :
    (setMesh w m d).mdc = d.mdc := rfl
@[simp] theorem setMesh_prs (w : Bogie) (m : MeshRec) (d : Device) :
    (setMesh w m d).prs = d.prs := rfl
@[simp] theorem setMesh_ssv (w : Bogie) (m : MeshRec) (d : Device) :
    (setMesh w m d).ssv = d.ssv := rfl
@[simp] theorem setMesh_bdt (w : Bogie) (m : MeshRec) (d : Device) :
    (setMesh w m d).bdt = d.bdt := rfl
@[simp] theorem setMesh_bau (w : Bogie) (m : MeshRec) (d : Device) :
    (setMesh w m d).bau = d.bau := rfl
@[simp] theorem setMesh_dcu (w : Bogie) (m : MeshRec) (d : Device) :
    (setMesh w m d).dcu = d.dcu := rfl
@[simp] theorem setMesh_dbm (w : Bogie) (m : MeshRec) (d : Device) :
    (setMesh w m d).dbm = d.dbm := rfl
@[simp] theorem setMesh_vru (w : Bogie) (m : MeshRec) (d : Device) :
    (setMesh w m d).vru = d.vru := rfl
@[simp] theorem setMesh_aru (w : Bogie) (m : MeshRec) (d : Device) :
    (setMesh w m d).aru = d.aru := rfl
@[simp] theorem setMesh_clp (w : Bogie) (m : MeshRec) (d : Device) :
    (setMesh w m d).clp = d.clp := rfl

/-! ### `zeroRollaway` -/

@[simp] theorem zeroRollaway_now (d : Device) :
    (zeroRollaway d).now = d.now := rfl
@[simp] theorem zeroRollaway_startAt (d : Device) :
    (zeroRollaway d).startAt = d.startAt := rfl
@[simp] theorem zeroRollaway_pins (d : Device) :
    (zeroRollaway d).pins = d.pins := rfl
@[simp] theorem zeroRollaway_mdc (d : Device) :
    (zeroRollaway d).mdc = d.mdc := rfl
@[simp] theorem zeroRollaway_prs (d : Device) :
    (zeroRollaway d).prs = d.prs := rfl
@[simp] theorem zeroRollaway_ssv (d : Device) :
    (zeroRollaway d).ssv = d.ssv := rfl
@[simp] theorem zeroRollaway_bdt (d : Device) :
    (zeroRollaway d).bdt = d.bdt := rfl
@[simp] theorem zeroRollaway_bau (d : Device) :
    (zeroRollaway d).bau = d.bau := rfl
@[simp] theorem zeroRollaway_dcu (d : Device) :
    (zeroRollaway d).dcu = d.dcu := rfl
@[simp] theorem zeroRollaway_dbm (d : Device) :
    (zeroRollaway d).dbm = d.dbm := rfl
@[simp] theorem zeroRollaway_vru (d : Device) :
    (zeroRollaway d).vru = d.vru := rfl
@[simp] theorem zeroRollaway_aru (d : Device) :
    (zeroRollaway d).aru = d.aru := rfl
@[simp] theorem zeroRollaway_clp (d : Device) :
    (zeroRollaway d).clp = d.clp := rfl

/-! ### `sampleSpeed` -/

@[simp] theorem sampleSpeed_now (d : Device) :
    (sampleSpeed d).now = d.now := rfl
@[simp] theorem sampleSpeed_startAt (d : Device) :
    (sampleSpeed d).startAt = d.startAt := rfl
@[simp] theorem sampleSpeed_pins (d : Device) :
    (sampleSpeed d).pins = d.pins := rfl
@[simp] theorem sampleSpeed_mdc (d : Device) :
    (sampleSpeed d).mdc = d.mdc := rfl
@[simp] theorem sampleSpeed_prs (d : Device) :
    (sampleSpeed d).prs = d.prs := rfl
@[simp] theorem sampleSpeed_ssv (d : Device) :
    (sampleSpeed d).ssv = d.ssv := rfl
@[simp] theorem sampleSpeed_bdt (d : Device) :
    (sampleSpeed d).bdt = d.bdt := rfl
@[simp] theorem sampleSpeed_bau (d : Device) :
    (sampleSpeed d).bau = d.bau := rfl
@[simp] theorem sampleSpeed_dcu (d : Device) :
    (sampleSpeed d).dcu = d.dcu := rfl
@[simp] theorem sampleSpeed_dbm (d : Device) :
    (sampleSpeed d).dbm = d.dbm := rfl
@[simp] theorem sampleSpeed_vru (d : Device) :
    (sampleSpeed d).vru = d.vru := rfl
@[simp] theorem sampleSpeed_aru (d : Device) :
    (sampleSpeed d).aru = d.aru := rfl
@[simp] theorem sampleSpeed_clp (d : Device) :
    (sampleSpeed d).clp = d.clp := rfl

/-! ### `appendEntry` -/

@[simp] theorem appendEntry_now (k : UplinkKind) (p : List Byte) (d : Device) :
    (appendEntry k p d).now = d.now := rfl
@[simp] theorem appendEntry_startAt (k : UplinkKind) (p : List Byte) (d : Device) :
    (appendEntry k p d).startAt = d.startAt := rfl
@[simp] theorem appendEntry_pins (k : UplinkKind) (p : List Byte) (d : Device) :
    (appendEntry k p d).pins = d.pins := rfl
@[simp] theorem appendEntry_mdc (k : UplinkKind) (p : List Byte) (d : Device) :
    (appendEntry k p d).mdc = d.mdc := rfl
@[simp] theorem appendEntry_prs (k : UplinkKind) (p : List Byte) (d : Device) :
    (appendEntry k p d).prs = d.prs := rfl
@[simp] theorem appendEntry_odu (k : UplinkKind) (p : List Byte) (d : Device) :
    (appendEntry k p d).odu = d.odu := rfl
@[simp] theorem appendEntry_ssv (k : UplinkKind) (p : List Byte) (d : Device) :
    (appendEntry k p d).ssv = d.ssv := rfl
@[simp] theorem appendEntry_bdt (k : UplinkKind) (p : List Byte) (d : Device) :
    (appendEntry k p d).bdt = d.bdt := rfl
@[simp] theorem appendEntry_bau (k : UplinkKind) (p : List Byte) (d : Device) :
    (appendEntry k p d).bau = d.bau := rfl
@[simp] theorem appendEntry_dcu (k : UplinkKind) (p : List Byte) (d : Device) :
    (appendEntry k p d).dcu = d.dcu := rfl
@[simp] theorem appendEntry_dbm (k : UplinkKind) (p : List Byte) (d : Device) :
    (appendEntry k p d).dbm = d.dbm := rfl
@[simp] theorem appendEntry_aru (k : UplinkKind) (p : List Byte) (d : Device) :
    (appendEntry k p d).aru = d.aru := rfl
@[simp] theorem appendEntry_clp (k : UplinkKind) (p : List Byte) (d : Device) :
    (appendEntry k p d).clp = d.clp := rfl

/-! ### `dropEntry` -/

@[simp] theorem dropEntry_now (n : Byte) (d : Device) :
    (dropEntry n d).now = d.now := rfl
@[simp] theorem dropEntry_startAt (n : Byte) (d : Device) :
    (dropEntry n d).startAt = d.startAt := rfl
@[simp] theorem dropEntry_pins (n : Byte) (d : Device) :
    (dropEntry n d).pins = d.pins := rfl
@[simp] theorem dropEntry_mdc (n : Byte) (d : Device) :
    (dropEntry n d).mdc = d.mdc := rfl
@[simp] theorem dropEntry_prs (n : Byte) (d : Device) :
    (dropEntry n d).prs = d.prs := rfl
@[simp] theorem dropEntry_odu (n : Byte) (d : Device) :
    (dropEntry n d).odu = d.odu := rfl
@[simp] theorem dropEntry_ssv (n : Byte) (d : Device) :
    (dropEntry n d).ssv = d.ssv := rfl
@[simp] theorem dropEntry_bdt (n : Byte) (d : Device) :
    (dropEntry n d).bdt = d.bdt := rfl
@[simp] theorem dropEntry_bau (n : Byte) (d : Device) :
    (dropEntry n d).bau = d.bau := rfl
@[simp] theorem dropEntry_dcu (n : Byte) (d : Device) :
    (dropEntry n d).dcu = d.dcu := rfl
@[simp] theorem dropEntry_dbm (n : Byte) (d : Device) :
    (dropEntry n d).dbm = d.dbm := rfl
@[simp] theorem dropEntry_aru (n : Byte) (d : Device) :
    (dropEntry n d).aru = d.aru := rfl
@[simp] theorem dropEntry_clp (n : Byte) (d : Device) :
    (dropEntry n d).clp = d.clp := rfl

/-! ### `mapEntry` -/

@[simp] theorem mapEntry_now (n : Byte) (f : OutEntry → OutEntry) (d : Device) :
    (mapEntry n f d).now = d.now := rfl
@[simp] theorem mapEntry_startAt (n : Byte) (f : OutEntry → OutEntry) (d : Device) :
    (mapEntry n f d).startAt = d.startAt := rfl
@[simp] theorem mapEntry_pins (n : Byte) (f : OutEntry → OutEntry) (d : Device) :
    (mapEntry n f d).pins = d.pins := rfl
@[simp] theorem mapEntry_mdc (n : Byte) (f : OutEntry → OutEntry) (d : Device) :
    (mapEntry n f d).mdc = d.mdc := rfl
@[simp] theorem mapEntry_prs (n : Byte) (f : OutEntry → OutEntry) (d : Device) :
    (mapEntry n f d).prs = d.prs := rfl
@[simp] theorem mapEntry_odu (n : Byte) (f : OutEntry → OutEntry) (d : Device) :
    (mapEntry n f d).odu = d.odu := rfl
@[simp] theorem mapEntry_ssv (n : Byte) (f : OutEntry → OutEntry) (d : Device) :
    (mapEntry n f d).ssv = d.ssv := rfl
@[simp] theorem mapEntry_bdt (n : Byte) (f : OutEntry → OutEntry) (d : Device) :
    (mapEntry n f d).bdt = d.bdt := rfl
@[simp] theorem mapEntry_bau (n : Byte) (f : OutEntry → OutEntry) (d : Device) :
    (mapEntry n f d).bau = d.bau := rfl
@[simp] theorem mapEntry_dcu (n : Byte) (f : OutEntry → OutEntry) (d : Device) :
    (mapEntry n f d).dcu = d.dcu := rfl
@[simp] theorem mapEntry_dbm (n : Byte) (f : OutEntry → OutEntry) (d : Device) :
    (mapEntry n f d).dbm = d.dbm := rfl
@[simp] theorem mapEntry_aru (n : Byte) (f : OutEntry → OutEntry) (d : Device) :
    (mapEntry n f d).aru = d.aru := rfl
@[simp] theorem mapEntry_clp (n : Byte) (f : OutEntry → OutEntry) (d : Device) :
    (mapEntry n f d).clp = d.clp := rfl

/-! ### `enterWindow` -/

@[simp] theorem enterWindow_now (n : Byte) (r : Result) (d : Device) :
    (enterWindow n r d).now = d.now := rfl
@[simp] theorem enterWindow_startAt (n : Byte) (r : Result) (d : Device) :
    (enterWindow n r d).startAt = d.startAt := rfl
@[simp] theorem enterWindow_pins (n : Byte) (r : Result) (d : Device) :
    (enterWindow n r d).pins = d.pins := rfl
@[simp] theorem enterWindow_mdc (n : Byte) (r : Result) (d : Device) :
    (enterWindow n r d).mdc = d.mdc := rfl
@[simp] theorem enterWindow_prs (n : Byte) (r : Result) (d : Device) :
    (enterWindow n r d).prs = d.prs := rfl
@[simp] theorem enterWindow_odu (n : Byte) (r : Result) (d : Device) :
    (enterWindow n r d).odu = d.odu := rfl
@[simp] theorem enterWindow_ssv (n : Byte) (r : Result) (d : Device) :
    (enterWindow n r d).ssv = d.ssv := rfl
@[simp] theorem enterWindow_bdt (n : Byte) (r : Result) (d : Device) :
    (enterWindow n r d).bdt = d.bdt := rfl
@[simp] theorem enterWindow_bau (n : Byte) (r : Result) (d : Device) :
    (enterWindow n r d).bau = d.bau := rfl
@[simp] theorem enterWindow_dcu (n : Byte) (r : Result) (d : Device) :
    (enterWindow n r d).dcu = d.dcu := rfl
@[simp] theorem enterWindow_dbm (n : Byte) (r : Result) (d : Device) :
    (enterWindow n r d).dbm = d.dbm := rfl
@[simp] theorem enterWindow_aru (n : Byte) (r : Result) (d : Device) :
    (enterWindow n r d).aru = d.aru := rfl
@[simp] theorem enterWindow_clp (n : Byte) (r : Result) (d : Device) :
    (enterWindow n r d).clp = d.clp := rfl

/-! ### `giveEntry` -/

@[simp] theorem giveEntry_now (e : OutEntry) (d : Device) :
    (giveEntry e d).now = d.now := rfl
@[simp] theorem giveEntry_startAt (e : OutEntry) (d : Device) :
    (giveEntry e d).startAt = d.startAt := rfl
@[simp] theorem giveEntry_pins (e : OutEntry) (d : Device) :
    (giveEntry e d).pins = d.pins := rfl
@[simp] theorem giveEntry_mdc (e : OutEntry) (d : Device) :
    (giveEntry e d).mdc = d.mdc := rfl
@[simp] theorem giveEntry_prs (e : OutEntry) (d : Device) :
    (giveEntry e d).prs = d.prs := rfl
@[simp] theorem giveEntry_odu (e : OutEntry) (d : Device) :
    (giveEntry e d).odu = d.odu := rfl
@[simp] theorem giveEntry_ssv (e : OutEntry) (d : Device) :
    (giveEntry e d).ssv = d.ssv := rfl
@[simp] theorem giveEntry_bdt (e : OutEntry) (d : Device) :
    (giveEntry e d).bdt = d.bdt := rfl
@[simp] theorem giveEntry_bau (e : OutEntry) (d : Device) :
    (giveEntry e d).bau = d.bau := rfl
@[simp] theorem giveEntry_dcu (e : OutEntry) (d : Device) :
    (giveEntry e d).dcu = d.dcu := rfl
@[simp] theorem giveEntry_dbm (e : OutEntry) (d : Device) :
    (giveEntry e d).dbm = d.dbm := rfl
@[simp] theorem giveEntry_aru (e : OutEntry) (d : Device) :
    (giveEntry e d).aru = d.aru := rfl
@[simp] theorem giveEntry_clp (e : OutEntry) (d : Device) :
    (giveEntry e d).clp = d.clp := rfl

/-! ### `enterOffline` -/

@[simp] theorem enterOffline_now (d : Device) :
    (enterOffline d).now = d.now := rfl
@[simp] theorem enterOffline_startAt (d : Device) :
    (enterOffline d).startAt = d.startAt := rfl
@[simp] theorem enterOffline_pins (d : Device) :
    (enterOffline d).pins = d.pins := rfl
@[simp] theorem enterOffline_mdc (d : Device) :
    (enterOffline d).mdc = d.mdc := rfl
@[simp] theorem enterOffline_prs (d : Device) :
    (enterOffline d).prs = d.prs := rfl
@[simp] theorem enterOffline_odu (d : Device) :
    (enterOffline d).odu = d.odu := rfl
@[simp] theorem enterOffline_ssv (d : Device) :
    (enterOffline d).ssv = d.ssv := rfl
@[simp] theorem enterOffline_bdt (d : Device) :
    (enterOffline d).bdt = d.bdt := rfl
@[simp] theorem enterOffline_bau (d : Device) :
    (enterOffline d).bau = d.bau := rfl
@[simp] theorem enterOffline_dcu (d : Device) :
    (enterOffline d).dcu = d.dcu := rfl
@[simp] theorem enterOffline_dbm (d : Device) :
    (enterOffline d).dbm = d.dbm := rfl
@[simp] theorem enterOffline_aru (d : Device) :
    (enterOffline d).aru = d.aru := rfl
@[simp] theorem enterOffline_clp (d : Device) :
    (enterOffline d).clp = d.clp := rfl

/-! ### `leaveOnline` -/

@[simp] theorem leaveOnline_now (d : Device) :
    (leaveOnline d).now = d.now := rfl
@[simp] theorem leaveOnline_startAt (d : Device) :
    (leaveOnline d).startAt = d.startAt := rfl
@[simp] theorem leaveOnline_pins (d : Device) :
    (leaveOnline d).pins = d.pins := rfl
@[simp] theorem leaveOnline_mdc (d : Device) :
    (leaveOnline d).mdc = d.mdc := rfl
@[simp] theorem leaveOnline_prs (d : Device) :
    (leaveOnline d).prs = d.prs := rfl
@[simp] theorem leaveOnline_odu (d : Device) :
    (leaveOnline d).odu = d.odu := rfl
@[simp] theorem leaveOnline_ssv (d : Device) :
    (leaveOnline d).ssv = d.ssv := rfl
@[simp] theorem leaveOnline_bdt (d : Device) :
    (leaveOnline d).bdt = d.bdt := rfl
@[simp] theorem leaveOnline_bau (d : Device) :
    (leaveOnline d).bau = d.bau := rfl
@[simp] theorem leaveOnline_dcu (d : Device) :
    (leaveOnline d).dcu = d.dcu := rfl
@[simp] theorem leaveOnline_dbm (d : Device) :
    (leaveOnline d).dbm = d.dbm := rfl
@[simp] theorem leaveOnline_aru (d : Device) :
    (leaveOnline d).aru = d.aru := rfl
@[simp] theorem leaveOnline_clp (d : Device) :
    (leaveOnline d).clp = d.clp := rfl

/-! ### `dropTelegram` -/

@[simp] theorem dropTelegram_now (d : Device) :
    (dropTelegram d).now = d.now := rfl
@[simp] theorem dropTelegram_startAt (d : Device) :
    (dropTelegram d).startAt = d.startAt := rfl
@[simp] theorem dropTelegram_pins (d : Device) :
    (dropTelegram d).pins = d.pins := rfl
@[simp] theorem dropTelegram_mdc (d : Device) :
    (dropTelegram d).mdc = d.mdc := rfl
@[simp] theorem dropTelegram_prs (d : Device) :
    (dropTelegram d).prs = d.prs := rfl
@[simp] theorem dropTelegram_odu (d : Device) :
    (dropTelegram d).odu = d.odu := rfl
@[simp] theorem dropTelegram_ssv (d : Device) :
    (dropTelegram d).ssv = d.ssv := rfl
@[simp] theorem dropTelegram_bdt (d : Device) :
    (dropTelegram d).bdt = d.bdt := rfl
@[simp] theorem dropTelegram_bau (d : Device) :
    (dropTelegram d).bau = d.bau := rfl
@[simp] theorem dropTelegram_dcu (d : Device) :
    (dropTelegram d).dcu = d.dcu := rfl
@[simp] theorem dropTelegram_dbm (d : Device) :
    (dropTelegram d).dbm = d.dbm := rfl
@[simp] theorem dropTelegram_aru (d : Device) :
    (dropTelegram d).aru = d.aru := rfl
@[simp] theorem dropTelegram_clp (d : Device) :
    (dropTelegram d).clp = d.clp := rfl

/-! ### `mapLink` -/

@[simp] theorem mapLink_now (n : DoorNo) (f : LinkRec → LinkRec) (d : Device) :
    (mapLink n f d).now = d.now := rfl
@[simp] theorem mapLink_startAt (n : DoorNo) (f : LinkRec → LinkRec) (d : Device) :
    (mapLink n f d).startAt = d.startAt := rfl
@[simp] theorem mapLink_pins (n : DoorNo) (f : LinkRec → LinkRec) (d : Device) :
    (mapLink n f d).pins = d.pins := rfl
@[simp] theorem mapLink_mdc (n : DoorNo) (f : LinkRec → LinkRec) (d : Device) :
    (mapLink n f d).mdc = d.mdc := rfl
@[simp] theorem mapLink_prs (n : DoorNo) (f : LinkRec → LinkRec) (d : Device) :
    (mapLink n f d).prs = d.prs := rfl
@[simp] theorem mapLink_odu (n : DoorNo) (f : LinkRec → LinkRec) (d : Device) :
    (mapLink n f d).odu = d.odu := rfl
@[simp] theorem mapLink_ssv (n : DoorNo) (f : LinkRec → LinkRec) (d : Device) :
    (mapLink n f d).ssv = d.ssv := rfl
@[simp] theorem mapLink_bdt (n : DoorNo) (f : LinkRec → LinkRec) (d : Device) :
    (mapLink n f d).bdt = d.bdt := rfl
@[simp] theorem mapLink_bau (n : DoorNo) (f : LinkRec → LinkRec) (d : Device) :
    (mapLink n f d).bau = d.bau := rfl
@[simp] theorem mapLink_dcu (n : DoorNo) (f : LinkRec → LinkRec) (d : Device) :
    (mapLink n f d).dcu = d.dcu := rfl
@[simp] theorem mapLink_vru (n : DoorNo) (f : LinkRec → LinkRec) (d : Device) :
    (mapLink n f d).vru = d.vru := rfl
@[simp] theorem mapLink_aru (n : DoorNo) (f : LinkRec → LinkRec) (d : Device) :
    (mapLink n f d).aru = d.aru := rfl
@[simp] theorem mapLink_clp (n : DoorNo) (f : LinkRec → LinkRec) (d : Device) :
    (mapLink n f d).clp = d.clp := rfl

/-! ### `endTrans` -/

@[simp] theorem endTrans_now (t : Trans) (d : Device) :
    (endTrans t d).now = d.now := rfl
@[simp] theorem endTrans_startAt (t : Trans) (d : Device) :
    (endTrans t d).startAt = d.startAt := rfl
@[simp] theorem endTrans_pins (t : Trans) (d : Device) :
    (endTrans t d).pins = d.pins := rfl
@[simp] theorem endTrans_mdc (t : Trans) (d : Device) :
    (endTrans t d).mdc = d.mdc := rfl
@[simp] theorem endTrans_prs (t : Trans) (d : Device) :
    (endTrans t d).prs = d.prs := rfl
@[simp] theorem endTrans_odu (t : Trans) (d : Device) :
    (endTrans t d).odu = d.odu := rfl
@[simp] theorem endTrans_ssv (t : Trans) (d : Device) :
    (endTrans t d).ssv = d.ssv := rfl
@[simp] theorem endTrans_bdt (t : Trans) (d : Device) :
    (endTrans t d).bdt = d.bdt := rfl
@[simp] theorem endTrans_bau (t : Trans) (d : Device) :
    (endTrans t d).bau = d.bau := rfl
@[simp] theorem endTrans_dcu (t : Trans) (d : Device) :
    (endTrans t d).dcu = d.dcu := rfl
@[simp] theorem endTrans_vru (t : Trans) (d : Device) :
    (endTrans t d).vru = d.vru := rfl
@[simp] theorem endTrans_aru (t : Trans) (d : Device) :
    (endTrans t d).aru = d.aru := rfl
@[simp] theorem endTrans_clp (t : Trans) (d : Device) :
    (endTrans t d).clp = d.clp := rfl

/-! ### `tighten` -/

@[simp] theorem tighten_now (r : Restriction) (d : Device) :
    (tighten r d).now = d.now := rfl
@[simp] theorem tighten_startAt (r : Restriction) (d : Device) :
    (tighten r d).startAt = d.startAt := rfl
@[simp] theorem tighten_pins (r : Restriction) (d : Device) :
    (tighten r d).pins = d.pins := rfl
@[simp] theorem tighten_mdc (r : Restriction) (d : Device) :
    (tighten r d).mdc = d.mdc := rfl
@[simp] theorem tighten_prs (r : Restriction) (d : Device) :
    (tighten r d).prs = d.prs := rfl
@[simp] theorem tighten_odu (r : Restriction) (d : Device) :
    (tighten r d).odu = d.odu := rfl
@[simp] theorem tighten_ssv (r : Restriction) (d : Device) :
    (tighten r d).ssv = d.ssv := rfl
@[simp] theorem tighten_bdt (r : Restriction) (d : Device) :
    (tighten r d).bdt = d.bdt := rfl
@[simp] theorem tighten_bau (r : Restriction) (d : Device) :
    (tighten r d).bau = d.bau := rfl
@[simp] theorem tighten_dcu (r : Restriction) (d : Device) :
    (tighten r d).dcu = d.dcu := rfl
@[simp] theorem tighten_dbm (r : Restriction) (d : Device) :
    (tighten r d).dbm = d.dbm := rfl
@[simp] theorem tighten_vru (r : Restriction) (d : Device) :
    (tighten r d).vru = d.vru := rfl
@[simp] theorem tighten_clp (r : Restriction) (d : Device) :
    (tighten r d).clp = d.clp := rfl

/-! ### `stopWake` -/

@[simp] theorem stopWake_now (d : Device) :
    (stopWake d).now = d.now := rfl
@[simp] theorem stopWake_startAt (d : Device) :
    (stopWake d).startAt = d.startAt := rfl
@[simp] theorem stopWake_pins (d : Device) :
    (stopWake d).pins = d.pins := rfl
@[simp] theorem stopWake_prs (d : Device) :
    (stopWake d).prs = d.prs := rfl
@[simp] theorem stopWake_odu (d : Device) :
    (stopWake d).odu = d.odu := rfl
@[simp] theorem stopWake_ssv (d : Device) :
    (stopWake d).ssv = d.ssv := rfl
@[simp] theorem stopWake_bdt (d : Device) :
    (stopWake d).bdt = d.bdt := rfl
@[simp] theorem stopWake_bau (d : Device) :
    (stopWake d).bau = d.bau := rfl
@[simp] theorem stopWake_dcu (d : Device) :
    (stopWake d).dcu = d.dcu := rfl
@[simp] theorem stopWake_dbm (d : Device) :
    (stopWake d).dbm = d.dbm := rfl
@[simp] theorem stopWake_vru (d : Device) :
    (stopWake d).vru = d.vru := rfl
@[simp] theorem stopWake_aru (d : Device) :
    (stopWake d).aru = d.aru := rfl
@[simp] theorem stopWake_clp (d : Device) :
    (stopWake d).clp = d.clp := rfl

/-! ### `startWake` -/

@[simp] theorem startWake_now (d : Device) :
    (startWake d).now = d.now := rfl
@[simp] theorem startWake_startAt (d : Device) :
    (startWake d).startAt = d.startAt := rfl
@[simp] theorem startWake_pins (d : Device) :
    (startWake d).pins = d.pins := rfl
@[simp] theorem startWake_prs (d : Device) :
    (startWake d).prs = d.prs := rfl
@[simp] theorem startWake_odu (d : Device) :
    (startWake d).odu = d.odu := rfl
@[simp] theorem startWake_ssv (d : Device) :
    (startWake d).ssv = d.ssv := rfl
@[simp] theorem startWake_bdt (d : Device) :
    (startWake d).bdt = d.bdt := rfl
@[simp] theorem startWake_bau (d : Device) :
    (startWake d).bau = d.bau := rfl
@[simp] theorem startWake_dcu (d : Device) :
    (startWake d).dcu = d.dcu := rfl
@[simp] theorem startWake_dbm (d : Device) :
    (startWake d).dbm = d.dbm := rfl
@[simp] theorem startWake_vru (d : Device) :
    (startWake d).vru = d.vru := rfl
@[simp] theorem startWake_aru (d : Device) :
    (startWake d).aru = d.aru := rfl
@[simp] theorem startWake_clp (d : Device) :
    (startWake d).clp = d.clp := rfl

/-! ### `reply` -/

@[simp] theorem reply_now (t : Byte) (r : Option Reason) (x : ReplyData) (d : Device) :
    (reply t r x d).now = d.now := rfl
@[simp] theorem reply_startAt (t : Byte) (r : Option Reason) (x : ReplyData) (d : Device) :
    (reply t r x d).startAt = d.startAt := rfl
@[simp] theorem reply_pins (t : Byte) (r : Option Reason) (x : ReplyData) (d : Device) :
    (reply t r x d).pins = d.pins := rfl
@[simp] theorem reply_mdc (t : Byte) (r : Option Reason) (x : ReplyData) (d : Device) :
    (reply t r x d).mdc = d.mdc := rfl
@[simp] theorem reply_prs (t : Byte) (r : Option Reason) (x : ReplyData) (d : Device) :
    (reply t r x d).prs = d.prs := rfl
@[simp] theorem reply_odu (t : Byte) (r : Option Reason) (x : ReplyData) (d : Device) :
    (reply t r x d).odu = d.odu := rfl
@[simp] theorem reply_ssv (t : Byte) (r : Option Reason) (x : ReplyData) (d : Device) :
    (reply t r x d).ssv = d.ssv := rfl
@[simp] theorem reply_bdt (t : Byte) (r : Option Reason) (x : ReplyData) (d : Device) :
    (reply t r x d).bdt = d.bdt := rfl
@[simp] theorem reply_bau (t : Byte) (r : Option Reason) (x : ReplyData) (d : Device) :
    (reply t r x d).bau = d.bau := rfl
@[simp] theorem reply_dcu (t : Byte) (r : Option Reason) (x : ReplyData) (d : Device) :
    (reply t r x d).dcu = d.dcu := rfl
@[simp] theorem reply_dbm (t : Byte) (r : Option Reason) (x : ReplyData) (d : Device) :
    (reply t r x d).dbm = d.dbm := rfl
@[simp] theorem reply_vru (t : Byte) (r : Option Reason) (x : ReplyData) (d : Device) :
    (reply t r x d).vru = d.vru := rfl
@[simp] theorem reply_aru (t : Byte) (r : Option Reason) (x : ReplyData) (d : Device) :
    (reply t r x d).aru = d.aru := rfl

/-! ### `freeTransmitter` -/

@[simp] theorem freeTransmitter_now (d : Device) :
    (freeTransmitter d).now = d.now := rfl
@[simp] theorem freeTransmitter_startAt (d : Device) :
    (freeTransmitter d).startAt = d.startAt := rfl
@[simp] theorem freeTransmitter_pins (d : Device) :
    (freeTransmitter d).pins = d.pins := rfl
@[simp] theorem freeTransmitter_mdc (d : Device) :
    (freeTransmitter d).mdc = d.mdc := rfl
@[simp] theorem freeTransmitter_prs (d : Device) :
    (freeTransmitter d).prs = d.prs := rfl
@[simp] theorem freeTransmitter_odu (d : Device) :
    (freeTransmitter d).odu = d.odu := rfl
@[simp] theorem freeTransmitter_ssv (d : Device) :
    (freeTransmitter d).ssv = d.ssv := rfl
@[simp] theorem freeTransmitter_bdt (d : Device) :
    (freeTransmitter d).bdt = d.bdt := rfl
@[simp] theorem freeTransmitter_bau (d : Device) :
    (freeTransmitter d).bau = d.bau := rfl
@[simp] theorem freeTransmitter_dcu (d : Device) :
    (freeTransmitter d).dcu = d.dcu := rfl
@[simp] theorem freeTransmitter_dbm (d : Device) :
    (freeTransmitter d).dbm = d.dbm := rfl
@[simp] theorem freeTransmitter_vru (d : Device) :
    (freeTransmitter d).vru = d.vru := rfl
@[simp] theorem freeTransmitter_aru (d : Device) :
    (freeTransmitter d).aru = d.aru := rfl

/-! ### `dropFrame` -/

@[simp] theorem dropFrame_now (d : Device) :
    (dropFrame d).now = d.now := rfl
@[simp] theorem dropFrame_startAt (d : Device) :
    (dropFrame d).startAt = d.startAt := rfl
@[simp] theorem dropFrame_pins (d : Device) :
    (dropFrame d).pins = d.pins := rfl
@[simp] theorem dropFrame_mdc (d : Device) :
    (dropFrame d).mdc = d.mdc := rfl
@[simp] theorem dropFrame_prs (d : Device) :
    (dropFrame d).prs = d.prs := rfl
@[simp] theorem dropFrame_odu (d : Device) :
    (dropFrame d).odu = d.odu := rfl
@[simp] theorem dropFrame_ssv (d : Device) :
    (dropFrame d).ssv = d.ssv := rfl
@[simp] theorem dropFrame_bdt (d : Device) :
    (dropFrame d).bdt = d.bdt := rfl
@[simp] theorem dropFrame_bau (d : Device) :
    (dropFrame d).bau = d.bau := rfl
@[simp] theorem dropFrame_dcu (d : Device) :
    (dropFrame d).dcu = d.dcu := rfl
@[simp] theorem dropFrame_dbm (d : Device) :
    (dropFrame d).dbm = d.dbm := rfl
@[simp] theorem dropFrame_vru (d : Device) :
    (dropFrame d).vru = d.vru := rfl
@[simp] theorem dropFrame_aru (d : Device) :
    (dropFrame d).aru = d.aru := rfl

/-! ### `keepAssembly` -/

@[simp] theorem keepAssembly_now (b : List Byte) (d : Device) :
    (keepAssembly b d).now = d.now := rfl
@[simp] theorem keepAssembly_startAt (b : List Byte) (d : Device) :
    (keepAssembly b d).startAt = d.startAt := rfl
@[simp] theorem keepAssembly_pins (b : List Byte) (d : Device) :
    (keepAssembly b d).pins = d.pins := rfl
@[simp] theorem keepAssembly_mdc (b : List Byte) (d : Device) :
    (keepAssembly b d).mdc = d.mdc := rfl
@[simp] theorem keepAssembly_prs (b : List Byte) (d : Device) :
    (keepAssembly b d).prs = d.prs := rfl
@[simp] theorem keepAssembly_odu (b : List Byte) (d : Device) :
    (keepAssembly b d).odu = d.odu := rfl
@[simp] theorem keepAssembly_ssv (b : List Byte) (d : Device) :
    (keepAssembly b d).ssv = d.ssv := rfl
@[simp] theorem keepAssembly_bdt (b : List Byte) (d : Device) :
    (keepAssembly b d).bdt = d.bdt := rfl
@[simp] theorem keepAssembly_bau (b : List Byte) (d : Device) :
    (keepAssembly b d).bau = d.bau := rfl
@[simp] theorem keepAssembly_dcu (b : List Byte) (d : Device) :
    (keepAssembly b d).dcu = d.dcu := rfl
@[simp] theorem keepAssembly_dbm (b : List Byte) (d : Device) :
    (keepAssembly b d).dbm = d.dbm := rfl
@[simp] theorem keepAssembly_vru (b : List Byte) (d : Device) :
    (keepAssembly b d).vru = d.vru := rfl
@[simp] theorem keepAssembly_aru (b : List Byte) (d : Device) :
    (keepAssembly b d).aru = d.aru := rfl

/-! ### `withPlunger` -/

@[simp] theorem withPlunger_now (x : Bool) (d : Device) :
    (withPlunger x d).now = d.now := rfl
@[simp] theorem withPlunger_startAt (x : Bool) (d : Device) :
    (withPlunger x d).startAt = d.startAt := rfl
@[simp] theorem withPlunger_mdc (x : Bool) (d : Device) :
    (withPlunger x d).mdc = d.mdc := rfl
@[simp] theorem withPlunger_prs (x : Bool) (d : Device) :
    (withPlunger x d).prs = d.prs := rfl
@[simp] theorem withPlunger_odu (x : Bool) (d : Device) :
    (withPlunger x d).odu = d.odu := rfl
@[simp] theorem withPlunger_ssv (x : Bool) (d : Device) :
    (withPlunger x d).ssv = d.ssv := rfl
@[simp] theorem withPlunger_bdt (x : Bool) (d : Device) :
    (withPlunger x d).bdt = d.bdt := rfl
@[simp] theorem withPlunger_bau (x : Bool) (d : Device) :
    (withPlunger x d).bau = d.bau := rfl
@[simp] theorem withPlunger_dcu (x : Bool) (d : Device) :
    (withPlunger x d).dcu = d.dcu := rfl
@[simp] theorem withPlunger_dbm (x : Bool) (d : Device) :
    (withPlunger x d).dbm = d.dbm := rfl
@[simp] theorem withPlunger_vru (x : Bool) (d : Device) :
    (withPlunger x d).vru = d.vru := rfl
@[simp] theorem withPlunger_aru (x : Bool) (d : Device) :
    (withPlunger x d).aru = d.aru := rfl
@[simp] theorem withPlunger_clp (x : Bool) (d : Device) :
    (withPlunger x d).clp = d.clp := rfl

/-! ### `withEdbLine` -/

@[simp] theorem withEdbLine_now (x : Bool) (d : Device) :
    (withEdbLine x d).now = d.now := rfl
@[simp] theorem withEdbLine_startAt (x : Bool) (d : Device) :
    (withEdbLine x d).startAt = d.startAt := rfl
@[simp] theorem withEdbLine_mdc (x : Bool) (d : Device) :
    (withEdbLine x d).mdc = d.mdc := rfl
@[simp] theorem withEdbLine_prs (x : Bool) (d : Device) :
    (withEdbLine x d).prs = d.prs := rfl
@[simp] theorem withEdbLine_odu (x : Bool) (d : Device) :
    (withEdbLine x d).odu = d.odu := rfl
@[simp] theorem withEdbLine_ssv (x : Bool) (d : Device) :
    (withEdbLine x d).ssv = d.ssv := rfl
@[simp] theorem withEdbLine_bdt (x : Bool) (d : Device) :
    (withEdbLine x d).bdt = d.bdt := rfl
@[simp] theorem withEdbLine_bau (x : Bool) (d : Device) :
    (withEdbLine x d).bau = d.bau := rfl
@[simp] theorem withEdbLine_dcu (x : Bool) (d : Device) :
    (withEdbLine x d).dcu = d.dcu := rfl
@[simp] theorem withEdbLine_dbm (x : Bool) (d : Device) :
    (withEdbLine x d).dbm = d.dbm := rfl
@[simp] theorem withEdbLine_vru (x : Bool) (d : Device) :
    (withEdbLine x d).vru = d.vru := rfl
@[simp] theorem withEdbLine_aru (x : Bool) (d : Device) :
    (withEdbLine x d).aru = d.aru := rfl
@[simp] theorem withEdbLine_clp (x : Bool) (d : Device) :
    (withEdbLine x d).clp = d.clp := rfl

/-! ### `withCarrier` -/

@[simp] theorem withCarrier_now (x : Bool) (d : Device) :
    (withCarrier x d).now = d.now := rfl
@[simp] theorem withCarrier_startAt (x : Bool) (d : Device) :
    (withCarrier x d).startAt = d.startAt := rfl
@[simp] theorem withCarrier_mdc (x : Bool) (d : Device) :
    (withCarrier x d).mdc = d.mdc := rfl
@[simp] theorem withCarrier_prs (x : Bool) (d : Device) :
    (withCarrier x d).prs = d.prs := rfl
@[simp] theorem withCarrier_odu (x : Bool) (d : Device) :
    (withCarrier x d).odu = d.odu := rfl
@[simp] theorem withCarrier_ssv (x : Bool) (d : Device) :
    (withCarrier x d).ssv = d.ssv := rfl
@[simp] theorem withCarrier_bdt (x : Bool) (d : Device) :
    (withCarrier x d).bdt = d.bdt := rfl
@[simp] theorem withCarrier_bau (x : Bool) (d : Device) :
    (withCarrier x d).bau = d.bau := rfl
@[simp] theorem withCarrier_dcu (x : Bool) (d : Device) :
    (withCarrier x d).dcu = d.dcu := rfl
@[simp] theorem withCarrier_dbm (x : Bool) (d : Device) :
    (withCarrier x d).dbm = d.dbm := rfl
@[simp] theorem withCarrier_vru (x : Bool) (d : Device) :
    (withCarrier x d).vru = d.vru := rfl
@[simp] theorem withCarrier_aru (x : Bool) (d : Device) :
    (withCarrier x d).aru = d.aru := rfl
@[simp] theorem withCarrier_clp (x : Bool) (d : Device) :
    (withCarrier x d).clp = d.clp := rfl

end Sys2Proof.Machine
end

