-- ==== Sys2Proof/Laws/Frames.lean ====
section
/-! SUPPORT. The frames of the shared operations: what each can change, said once. A relation of this
file says of two devices that the second keeps what it names of the first; an operation's lemma says
that it keeps so much of its device. -/

namespace Sys2Proof.Machine

/-! ### The relations -/

/-- Only the table, the brake outputs, the radio and the link port may differ. -/
structure KeepsBlocks (d e : Device) : Prop where
  now : e.now = d.now
  startAt : e.startAt = d.startAt
  pins : e.pins = d.pins
  mdc : e.mdc = d.mdc
  prs : e.prs = d.prs
  odu : e.odu = d.odu
  ssv : e.ssv = d.ssv
  dcu : e.dcu = d.dcu
  dbm : e.dbm = d.dbm
  aru : e.aru = d.aru

/-- Besides those, mode, causes, supervision record and doors may differ. -/
structure KeepsMotion (d e : Device) : Prop where
  now : e.now = d.now
  startAt : e.startAt = d.startAt
  pins : e.pins = d.pins
  config : e.mdc.config = d.mdc.config
  orientation : e.mdc.orientation = d.mdc.orientation
  prs : e.prs = d.prs
  odu : e.odu = d.odu
  dbm : e.dbm = d.dbm
  aru : e.aru = d.aru

/-- Besides those, the odometry record may differ. -/
structure KeepsGiven (d e : Device) : Prop where
  now : e.now = d.now
  startAt : e.startAt = d.startAt
  pins : e.pins = d.pins
  config : e.mdc.config = d.mdc.config
  orientation : e.mdc.orientation = d.mdc.orientation
  prs : e.prs = d.prs
  dbm : e.dbm = d.dbm
  aru : e.aru = d.aru

theorem KeepsBlocks.refl (d : Device) : KeepsBlocks d d := ⟨rfl, rfl, rfl, rfl, rfl, rfl, rfl, rfl, rfl, rfl⟩
theorem KeepsMotion.refl (d : Device) : KeepsMotion d d := ⟨rfl, rfl, rfl, rfl, rfl, rfl, rfl, rfl, rfl⟩
theorem KeepsGiven.refl (d : Device) : KeepsGiven d d := ⟨rfl, rfl, rfl, rfl, rfl, rfl, rfl, rfl⟩

theorem KeepsBlocks.trans {d e f : Device} (h : KeepsBlocks d e) (k : KeepsBlocks e f) :
    KeepsBlocks d f :=
  ⟨k.now.trans h.now, k.startAt.trans h.startAt, k.pins.trans h.pins, k.mdc.trans h.mdc,
   k.prs.trans h.prs, k.odu.trans h.odu, k.ssv.trans h.ssv, k.dcu.trans h.dcu, k.dbm.trans h.dbm,
   k.aru.trans h.aru⟩

theorem KeepsMotion.trans {d e f : Device} (h : KeepsMotion d e) (k : KeepsMotion e f) :
    KeepsMotion d f :=
  ⟨k.now.trans h.now, k.startAt.trans h.startAt, k.pins.trans h.pins, k.config.trans h.config,
   k.orientation.trans h.orientation, k.prs.trans h.prs, k.odu.trans h.odu, k.dbm.trans h.dbm,
   k.aru.trans h.aru⟩

theorem KeepsGiven.trans {d e f : Device} (h : KeepsGiven d e) (k : KeepsGiven e f) :
    KeepsGiven d f :=
  ⟨k.now.trans h.now, k.startAt.trans h.startAt, k.pins.trans h.pins, k.config.trans h.config,
   k.orientation.trans h.orientation, k.prs.trans h.prs, k.dbm.trans h.dbm, k.aru.trans h.aru⟩

theorem KeepsBlocks.motion {d e : Device} (h : KeepsBlocks d e) : KeepsMotion d e :=
  ⟨h.now, h.startAt, h.pins, by rw [h.mdc], by rw [h.mdc], h.prs, h.odu, h.dbm, h.aru⟩

theorem KeepsMotion.given {d e : Device} (h : KeepsMotion d e) : KeepsGiven d e :=
  ⟨h.now, h.startAt, h.pins, h.config, h.orientation, h.prs, h.dbm, h.aru⟩

theorem KeepsBlocks.after {d e f : Device} (k : KeepsBlocks e f) (h : KeepsBlocks d e) :
    KeepsBlocks d f := h.trans k

theorem KeepsMotion.after {d e f : Device} (k : KeepsMotion e f) (h : KeepsMotion d e) :
    KeepsMotion d f := h.trans k

theorem KeepsGiven.after {d e f : Device} (k : KeepsGiven e f) (h : KeepsGiven d e) :
    KeepsGiven d f := h.trans k

/-- A fold of steps that each keep the blocks keeps them. -/
theorem foldl_keeps {α : Type} (f : Device → α → Device) (h : ∀ x a, KeepsBlocks x (f x a))
    (l : List α) (d : Device) : KeepsBlocks d (l.foldl f d) := by
  induction l generalizing d with
  | nil => exact .refl d
  | cons a l ih => exact (h d a).trans (ih _)

/-! ### Notices and reports -/

theorem notify_keeps (n : Notice) (d : Device) : KeepsBlocks d (notify n d) := by
  unfold notify; split <;> exact ⟨rfl, rfl, rfl, rfl, rfl, rfl, rfl, rfl, rfl, rfl⟩

theorem dropQueuedReport_keeps (d : Device) : KeepsBlocks d (dropQueuedReport d) := by
  unfold dropQueuedReport; split <;> exact ⟨rfl, rfl, rfl, rfl, rfl, rfl, rfl, rfl, rfl, rfl⟩

theorem appendEntry_keeps (k : UplinkKind) (p : List Byte) (d : Device) :
    KeepsBlocks d (appendEntry k p d) := ⟨rfl, rfl, rfl, rfl, rfl, rfl, rfl, rfl, rfl, rfl⟩

theorem queueEntry_keeps (k : UplinkKind) (p : List Byte) (d : Device) :
    KeepsBlocks d (queueEntry k p d).1 := by
  unfold queueEntry
  split
  · dsimp only
    split
    · exact appendEntry_keeps k p d
    · exact (dropQueuedReport_keeps d).trans (appendEntry_keeps k p _)
  · exact notify_keeps _ d

theorem callPosition_keeps (d : Device) : KeepsBlocks d (callPosition d) := by
  unfold callPosition
  split
  · exact ⟨rfl, rfl, rfl, rfl, rfl, rfl, rfl, rfl, rfl, rfl⟩
  · split
    · exact appendEntry_keeps _ _ d
    · exact notify_keeps _ d

theorem callEvent_keeps (e : Entry) (d : Device) : KeepsBlocks d (callEvent e d) :=
  queueEntry_keeps _ _ d

/-! ### One event of the table -/

theorem tableNotices_keeps (old : Bdt) (d : Device) : KeepsBlocks d (tableNotices old d) := by
  unfold tableNotices
  have h := foldl_keeps (fun x e => notify (demandNotice e) x) (fun x e => notify_keeps _ x)
    (changedEntries old.entries d.bdt.entries) d
  dsimp only
  split
  · exact h
  · exact h.trans (notify_keeps _ _)

theorem tableReports_keeps (old : Bdt) (d : Device) : KeepsBlocks d (tableReports old d) := by
  unfold tableReports
  dsimp only
  split
  · exact (callPosition_keeps d).trans (foldl_keeps _ (fun x e => callEvent_keeps e x) _ _)
  · exact foldl_keeps _ (fun x e => callEvent_keeps e x) _ _

theorem blendAfter_keeps (old : Bdt) (d : Device) : KeepsBlocks d (blendAfter old d) := by
  unfold blendAfter
  split
  · exact ⟨rfl, rfl, rfl, rfl, rfl, rfl, rfl, rfl, rfl, rfl⟩
  · split
    · exact ⟨rfl, rfl, rfl, rfl, rfl, rfl, rfl, rfl, rfl, rfl⟩
    · exact .refl d

theorem setOutputs_keeps (d : Device) : KeepsBlocks d (setOutputs d) :=
  ⟨rfl, rfl, rfl, rfl, rfl, rfl, rfl, rfl, rfl, rfl⟩

theorem tableEvent_keeps (f : List Entry → List Entry) (d : Device) :
    KeepsBlocks d (tableEvent f d) := by
  unfold tableEvent
  have h : KeepsBlocks d { d with bdt := bdtAfter f d } :=
    ⟨rfl, rfl, rfl, rfl, rfl, rfl, rfl, rfl, rfl, rfl⟩
  exact (((h.trans (tableNotices_keeps _ _)).trans (tableReports_keeps _ _)).trans
    (blendAfter_keeps _ _)).trans (setOutputs_keeps _)

/-! The table after an event is `bdtAfter`: nothing that follows it in the event writes the table. -/

theorem notify_bdt (n : Notice) (d : Device) : (notify n d).bdt = d.bdt := by
  unfold notify; split <;> rfl

theorem callPosition_bdt (d : Device) : (callPosition d).bdt = d.bdt := by
  unfold callPosition
  split
  · rfl
  · split
    · rfl
    · exact notify_bdt _ d

theorem queueEntry_bdt (k : UplinkKind) (p : List Byte) (d : Device) :
    (queueEntry k p d).1.bdt = d.bdt := by
  unfold queueEntry
  split
  · dsimp only
    split
    · rfl
    · unfold dropQueuedReport; split <;> rfl
  · exact notify_bdt _ d

theorem foldl_bdt {α : Type} (f : Device → α → Device) (h : ∀ x a, (f x a).bdt = x.bdt)
    (l : List α) (d : Device) : (l.foldl f d).bdt = d.bdt := by
  induction l generalizing d with
  | nil => rfl
  | cons a l ih => exact (ih _).trans (h d a)

theorem tableNotices_bdt (old : Bdt) (d : Device) : (tableNotices old d).bdt = d.bdt := by
  unfold tableNotices
  have h := foldl_bdt (fun x e => notify (demandNotice e) x) (fun x e => notify_bdt _ x)
    (changedEntries old.entries d.bdt.entries) d
  dsimp only
  split
  · exact h
  · exact (notify_bdt _ _).trans h

theorem tableReports_bdt (old : Bdt) (d : Device) : (tableReports old d).bdt = d.bdt := by
  unfold tableReports
  dsimp only
  have h := fun x => foldl_bdt (fun x e => callEvent e x) (fun x e => queueEntry_bdt _ _ x)
    ((changedEntries old.entries d.bdt.entries).filter (fun e => !e.src.carriesLevel)) x
  split
  · exact (h _).trans (callPosition_bdt d)
  · exact h d

theorem blendAfter_bdt (old : Bdt) (d : Device) : (blendAfter old d).bdt = d.bdt := by
  unfold blendAfter
  split
  · rfl
  · split <;> rfl

/-- The table after one event. -/
theorem tableEvent_bdt (f : List Entry → List Entry) (d : Device) :
    (tableEvent f d).bdt = bdtAfter f d := by
  unfold tableEvent
  rw [setOutputs_bdt, blendAfter_bdt, tableReports_bdt, tableNotices_bdt]

/-! ### Raises and clears -/

theorem rollawayAfterTest_keeps (d : Device) : KeepsBlocks d (rollawayAfterTest d) := by
  unfold rollawayAfterTest; split
  · exact tableEvent_keeps _ d
  · exact .refl d

theorem reportTestFailure_keeps (c : EndCause) (d : Device) :
    KeepsBlocks d (reportTestFailure c d) := by
  unfold reportTestFailure
  dsimp only
  split
  · exact ((tableEvent_keeps _ d).trans (tableEvent_keeps _ _)).trans (tableEvent_keeps _ _)
  · exact (tableEvent_keeps _ d).trans (tableEvent_keeps _ _)

theorem endTest_keeps (r : TestResult) (c : EndCause) (d : Device) :
    KeepsBlocks d (endTest r c d) := by
  unfold endTest
  have h : KeepsBlocks d (writeTestEnd r c (movementAfter d.bau.test d.bau.run) (endPhase d)) :=
    ⟨rfl, rfl, rfl, rfl, rfl, rfl, rfl, rfl, rfl, rfl⟩
  dsimp only
  split
  · exact ((h.trans (reportTestFailure_keeps c _)).trans (rollawayAfterTest_keeps _)).trans
      (notify_keeps _ _)
  · exact (h.trans (rollawayAfterTest_keeps _)).trans (notify_keeps _ _)

theorem bdtEvent_keeps (f : List Entry → List Entry) (d : Device) : KeepsBlocks d (bdtEvent f d) := by
  unfold bdtEvent abortIfEmergency
  split
  · exact (tableEvent_keeps f d).trans (endTest_keeps _ _ _)
  · exact tableEvent_keeps f d

theorem raiseWith_keeps (src : Source) (l : Level) (x : Option Nat) (d : Device) :
    KeepsBlocks d (raiseWith src l x d) := by
  unfold raiseWith; split <;> exact bdtEvent_keeps _ d

theorem clear_keeps (src : Source) (d : Device) : KeepsBlocks d (clear src d) := bdtEvent_keeps _ d

theorem setCondition_keeps (src : Source) (b : Bool) (d : Device) :
    KeepsBlocks d (setCondition src b d) := by
  unfold setCondition
  split
  · exact raiseWith_keeps _ _ _ d
  · split
    · exact clear_keeps _ d
    · exact .refl d

theorem refreshBrakes_keeps (d : Device) : KeepsBlocks d (refreshBrakes d) :=
  ⟨rfl, rfl, rfl, rfl, rfl, rfl, rfl, rfl, rfl, rfl⟩

theorem judgeBrakeFault_keeps (b : Bool) (d : Device) : KeepsBlocks d (judgeBrakeFault b d) := by
  unfold judgeBrakeFault
  split
  · split
    · exact endTest_keeps _ _ d
    · exact raiseWith_keeps _ _ _ d
  · split
    · exact clear_keeps _ d
    · exact .refl d

theorem judgeChannel_keeps (ch : Channel) (d : Device) : KeepsBlocks d (judgeChannel ch d) := by
  unfold judgeChannel
  exact KeepsBlocks.after (judgeBrakeFault_keeps _ _)
          ⟨rfl, rfl, rfl, rfl, rfl, rfl, rfl, rfl, rfl, rfl⟩

theorem beginPhase_keeps (p : Phase) (k : Nat) (d : Device) : KeepsBlocks d (beginPhase p k d) := by
  unfold beginPhase
  split
  · exact ⟨rfl, rfl, rfl, rfl, rfl, rfl, rfl, rfl, rfl, rfl⟩
  · exact endTest_keeps _ _ d

theorem testMovement_keeps (m : Nat) (d : Device) : KeepsBlocks d (testMovement m d) := by
  unfold testMovement
  split
  · split
    · dsimp only
      split
      · exact KeepsBlocks.after (endTest_keeps _ _ _)
          ⟨rfl, rfl, rfl, rfl, rfl, rfl, rfl, rfl, rfl, rfl⟩
      · exact ⟨rfl, rfl, rfl, rfl, rfl, rfl, rfl, rfl, rfl, rfl⟩
    · exact .refl d
  · exact .refl d

/-! ### Doors, mode, supervision -/

theorem setDoor_keeps (n : DoorNo) (r : DoorRec) (d : Device) : KeepsMotion d (setDoor n r d) := by
  unfold setDoor
  dsimp only
  split
  · exact ⟨rfl, rfl, rfl, rfl, rfl, rfl, rfl, rfl, rfl⟩
  · exact KeepsMotion.after (notify_keeps _ _).motion
          ⟨rfl, rfl, rfl, rfl, rfl, rfl, rfl, rfl, rfl⟩

theorem eachDoor_keeps (f : DoorNo → DoorRec → DoorRec) (d : Device) :
    KeepsMotion d (eachDoor f d) :=
  (((setDoor_keeps _ _ d).trans (setDoor_keeps _ _ _)).trans (setDoor_keeps _ _ _)).trans
    (setDoor_keeps _ _ _)

theorem withdrawRelease_keeps (d : Device) : KeepsMotion d (withdrawRelease d) := by
  unfold withdrawRelease
  split
  · exact .refl d
  · exact KeepsMotion.after (eachDoor_keeps _ _)
          ⟨rfl, rfl, rfl, rfl, rfl, rfl, rfl, rfl, rfl⟩

theorem judgeRelease_keeps (d : Device) : KeepsMotion d (judgeRelease d) := by
  unfold judgeRelease
  split
  · exact .refl d
  · split
    · exact .refl d
    · exact withdrawRelease_keeps d

theorem judgeMoving_keeps (b : Bool) (d : Device) : KeepsBlocks d (judgeMoving b d) := by
  have ends : ∀ x : Device, KeepsBlocks x (if allSecured x then setCondition .doorMoving false x else x) := by
    intro x
    split
    · exact setCondition_keeps _ _ x
    · exact .refl x
  unfold judgeMoving
  cases b with
  | false => exact ends d
  | true => exact (setCondition_keeps .doorMoving true d).trans (ends _)

theorem judgeConditions_keeps (b : Bool) (d : Device) : KeepsBlocks d (judgeConditions b d) :=
  ((setCondition_keeps _ _ d).trans (judgeMoving_keeps b _)).trans (setCondition_keeps _ _ _)

theorem judgeDoorConditions_keeps (d : Device) : KeepsBlocks d (judgeDoorConditions d) :=
  judgeConditions_keeps false d

theorem takeReport_keeps (n : DoorNo) (x : Report) (d : Device) : KeepsMotion d (takeReport n x d) := by
  unfold takeReport
  dsimp only
  split
  · exact .refl d
  · exact (setDoor_keeps _ _ d).trans (judgeConditions_keeps _ _).motion

theorem loseDoor_keeps (n : DoorNo) (d : Device) : KeepsMotion d (loseDoor n d) := by
  unfold loseDoor
  dsimp only
  split
  · exact .refl d
  · exact (setDoor_keeps _ _ d).trans (judgeDoorConditions_keeps _).motion

theorem rollawayTest_keeps (d : Device) : KeepsBlocks d (rollawayTest d) := by
  unfold rollawayTest; split
  · exact setCondition_keeps _ _ d
  · exact .refl d

theorem quietSupervisor_keeps (d : Device) : KeepsMotion d (quietSupervisor d) := by
  unfold quietSupervisor
  have h := ((setCondition_keeps .overspeedSb false d).trans (setCondition_keeps .overspeedEb false _)).trans
    (setCondition_keeps .authority false _)
  dsimp only
  split
  · exact h.motion.trans ⟨rfl, rfl, rfl, rfl, rfl, rfl, rfl, rfl, rfl⟩
  · exact (notify_keeps _ _).motion.after (h.motion.trans ⟨rfl, rfl, rfl, rfl, rfl, rfl, rfl, rfl, rfl⟩)

theorem refreshModeEntry_keeps (d : Device) : KeepsBlocks d (refreshModeEntry d) :=
  raiseWith_keeps _ _ _ d

theorem modeNotice_keeps (d : Device) : KeepsBlocks d (modeNotice d) := notify_keeps _ d

theorem changeMode_keeps (m : Mode) (d : Device) : KeepsMotion d (changeMode m d) := by
  unfold changeMode
  split
  · exact .refl d
  · have h0 : KeepsMotion d { d with mdc := { d.mdc with mode := m } } :=
      ⟨rfl, rfl, rfl, rfl, rfl, rfl, rfl, rfl, rfl⟩
    have h := h0.trans ((((refreshModeEntry_keeps _).trans (setOutputs_keeps _)).trans
      (modeNotice_keeps _)).trans (callPosition_keeps _)).motion
    dsimp only
    split
    · exact ((h.trans (quietSupervisor_keeps _)).trans (judgeRelease_keeps _)).trans
        (rollawayTest_keeps _).motion
    · exact (h.trans (judgeRelease_keeps _)).trans (rollawayTest_keeps _).motion

theorem reportCauses_keeps (d : Device) : KeepsMotion d (reportCauses d) := by
  unfold reportCauses
  dsimp only
  split
  · exact .refl d
  · have h : KeepsMotion d { d with mdc := { d.mdc with
        causePosition := (causesNow d).1, causeRadio := (causesNow d).2 } } :=
      ⟨rfl, rfl, rfl, rfl, rfl, rfl, rfl, rfl, rfl⟩
    split
    · exact h.trans (modeNotice_keeps _).motion
    · exact h.trans (changeMode_keeps _ _)

theorem positionChanged_keeps (d : Device) : KeepsMotion d (positionChanged d) :=
  (((setCondition_keeps _ _ d).motion).trans (reportCauses_keeps _)).trans (judgeRelease_keeps _)

theorem ssvEvent_keeps (src : Source) (a b : Bool) (x : Option Nat) (d : Device) :
    KeepsBlocks d (ssvEvent src a b x d) := by
  unfold ssvEvent
  split
  · exact raiseWith_keeps _ _ _ d
  · split
    · exact clear_keeps _ d
    · exact .refl d

theorem evaluate_keeps (d : Device) : KeepsMotion d (evaluate d) := by
  unfold evaluate
  split
  · exact .refl d
  · split
    · rename_i c _ _
      have h : KeepsMotion d { d with ssv := evaluated c d } :=
        ⟨rfl, rfl, rfl, rfl, rfl, rfl, rfl, rfl, rfl⟩
      dsimp only
      split
      · exact ((ssvEvent_keeps _ _ _ _ _).after ((ssvEvent_keeps _ _ _ _ _).after
          (ssvEvent_keeps _ _ _ _ _))).motion.after h
      · exact ((notify_keeps _ _).after ((ssvEvent_keeps _ _ _ _ _).after
          ((ssvEvent_keeps _ _ _ _ _).after (ssvEvent_keeps _ _ _ _ _)))).motion.after h
    · exact .refl d

/-! ### Odometry -/

theorem chooseSource_keeps (d : Device) : KeepsGiven d (chooseSource d) := by
  unfold chooseSource
  dsimp only
  split
  · exact .refl d
  · exact ⟨rfl, rfl, rfl, rfl, rfl, rfl, rfl, rfl⟩

theorem rackEntryTest_keeps (d : Device) : KeepsBlocks d (rackEntryTest d) := by
  unfold rackEntryTest
  split
  · exact .refl d
  · split
    · exact setCondition_keeps _ _ d
    · split
      · exact setCondition_keeps _ _ d
      · exact .refl d

theorem clearShallow_keeps (d : Device) : KeepsGiven d (clearShallow d) :=
  ⟨rfl, rfl, rfl, rfl, rfl, rfl, rfl, rfl⟩

theorem meshChanged_keeps (d : Device) : KeepsGiven d (meshChanged d) :=
  ((chooseSource_keeps d).trans (clearShallow_keeps _)).trans (rackEntryTest_keeps _).motion.given

theorem placeBogies_keeps (d : Device) : KeepsGiven d (placeBogies d) := by
  unfold placeBogies
  dsimp only
  split
  · exact ⟨rfl, rfl, rfl, rfl, rfl, rfl, rfl, rfl⟩
  · exact KeepsGiven.after (meshChanged_keeps _)
          ⟨rfl, rfl, rfl, rfl, rfl, rfl, rfl, rfl⟩

theorem placeAgain_keeps (d : Device) : KeepsGiven d (placeAgain d) :=
  (placeBogies_keeps d).trans (positionChanged_keeps _).given

theorem faultBogie_keeps (w : Bogie) (d : Device) : KeepsGiven d (faultBogie w d) := by
  unfold faultBogie
  dsimp only
  exact KeepsGiven.after (((setCondition_keeps _ _ _).motion.given.trans (meshChanged_keeps _)).trans
      (positionChanged_keeps _).given)
          ⟨rfl, rfl, rfl, rfl, rfl, rfl, rfl, rfl⟩

theorem recoverBogies_keeps (d : Device) : KeepsGiven d (recoverBogies d) := by
  unfold recoverBogies
  exact KeepsGiven.after ((meshChanged_keeps _).trans (positionChanged_keeps _).given)
          ⟨rfl, rfl, rfl, rfl, rfl, rfl, rfl, rfl⟩

/-! ### Radio -/

theorem dropOldestReport_keeps (d : Device) : KeepsBlocks d (dropOldestReport d) := by
  unfold dropOldestReport
  split
  · exact KeepsBlocks.after (notify_keeps _ _) ⟨rfl, rfl, rfl, rfl, rfl, rfl, rfl, rfl, rfl, rfl⟩
  · exact .refl d

theorem roomForLogon_keeps (d : Device) : KeepsBlocks d (roomForLogon d) := by
  unfold roomForLogon
  split
  · exact .refl d
  · split
    · exact dropQueuedReport_keeps d
    · exact dropOldestReport_keeps d

theorem queueLogon_keeps (d : Device) : KeepsBlocks d (queueLogon d) := by
  unfold queueLogon
  dsimp only
  split
  · exact ⟨rfl, rfl, rfl, rfl, rfl, rfl, rfl, rfl, rfl, rfl⟩
  · have k := (roomForLogon_keeps d).trans (appendEntry_keeps .logon (logonPayload d) _)
    exact k.trans ⟨rfl, rfl, rfl, rfl, rfl, rfl, rfl, rfl, rfl, rfl⟩

theorem endLogon_keeps (d : Device) : KeepsBlocks d (endLogon d) := by
  unfold endLogon
  dsimp only
  split <;> exact ⟨rfl, rfl, rfl, rfl, rfl, rfl, rfl, rfl, rfl, rfl⟩

theorem enterLink_keeps (l : LinkState) (d : Device) : KeepsBlocks d (enterLink l d) := by
  cases l with
  | offline => exact ⟨rfl, rfl, rfl, rfl, rfl, rfl, rfl, rfl, rfl, rfl⟩
  | loggingOn => exact queueLogon_keeps d
  | lost => exact queueLogon_keeps d
  | refused => exact endLogon_keeps d
  | online => exact (endLogon_keeps d).trans ⟨rfl, rfl, rfl, rfl, rfl, rfl, rfl, rfl, rfl, rfl⟩

theorem linkActions_keeps (l : LinkState) (d : Device) : KeepsBlocks d (linkActions l d) := by
  have h0 : KeepsBlocks d { d with vru := { d.vru with link := l } } :=
    ⟨rfl, rfl, rfl, rfl, rfl, rfl, rfl, rfl, rfl, rfl⟩
  have leave : ∀ x : Device, KeepsBlocks x (leaveOnline x) := fun _ =>
    ⟨rfl, rfl, rfl, rfl, rfl, rfl, rfl, rfl, rfl, rfl⟩
  unfold linkActions
  dsimp only
  split
  · exact (leave _).after ((enterLink_keeps l _).after h0)
  · exact (enterLink_keeps l _).after h0

theorem linkTo_keeps (l : LinkState) (v : LinkEvent) (d : Device) : KeepsMotion d (linkTo l v d) :=
  (reportCauses_keeps _).after ((setCondition_keeps _ _ _).motion.after
    ((notify_keeps _ _).after (linkActions_keeps l d)).motion)

theorem silenceExpires_keeps (d : Device) : KeepsMotion d (silenceExpires d) := by
  unfold silenceExpires; split
  · exact linkTo_keeps _ _ d
  · exact .refl d

theorem judgeShadow_keeps (d : Device) : KeepsMotion d (judgeShadow d) := by
  unfold judgeShadow
  dsimp only
  split
  · exact .refl d
  · split
    · exact KeepsMotion.after (silenceExpires_keeps _)
          ⟨rfl, rfl, rfl, rfl, rfl, rfl, rfl, rfl, rfl⟩
    · exact ⟨rfl, rfl, rfl, rfl, rfl, rfl, rfl, rfl, rfl⟩

theorem radioPump_keeps (d : Device) : KeepsBlocks d (radioPump d) := by
  unfold radioPump
  split
  · exact .refl d
  · split
    · exact ⟨rfl, rfl, rfl, rfl, rfl, rfl, rfl, rfl, rfl, rfl⟩
    · split
      · exact ⟨rfl, rfl, rfl, rfl, rfl, rfl, rfl, rfl, rfl, rfl⟩
      · exact .refl d

/-! ### What closes every command, and a request's frame -/

theorem linkPump_keeps (d : Device) : KeepsBlocks d (linkPump d) := by
  unfold linkPump
  split
  · exact .refl d
  · split
    · exact ⟨rfl, rfl, rfl, rfl, rfl, rfl, rfl, rfl, rfl, rfl⟩
    · split
      · exact ⟨rfl, rfl, rfl, rfl, rfl, rfl, rfl, rfl, rfl, rfl⟩
      · exact .refl d

/-- `busPump` writes the door bus alone, and not its link records. -/
theorem busPump_frame (d : Device) :
    ∃ b, busPump d = { d with dbm := b } ∧ b.links = d.dbm.links := by
  unfold busPump
  split
  · exact ⟨d.dbm, rfl, rfl⟩
  · split
    · exact ⟨_, rfl, rfl⟩
    · exact ⟨d.dbm, rfl, rfl⟩

/-- The radio port's choice writes the radio alone. -/
theorem radioPump_frame (d : Device) : ∃ v, radioPump d = { d with vru := v } := by
  unfold radioPump
  split
  · exact ⟨d.vru, rfl⟩
  · split
    · exact ⟨_, rfl⟩
    · split
      · exact ⟨_, rfl⟩
      · exact ⟨d.vru, rfl⟩

/-- The link port's choice writes the link port alone. -/
theorem linkPump_frame (d : Device) : ∃ c, linkPump d = { d with clp := c } := by
  unfold linkPump
  split
  · exact ⟨d.clp, rfl⟩
  · split
    · exact ⟨_, rfl⟩
    · split
      · exact ⟨_, rfl⟩
      · exact ⟨d.clp, rfl⟩

/-- What closes a command writes the bus, the radio and the link port alone, and no link record. -/
theorem finish_frame (d : Device) :
    ∃ b v c, finish d = { d with dbm := b, vru := v, clp := c } ∧ b.links = d.dbm.links := by
  obtain ⟨b, hb, hl⟩ := busPump_frame d
  obtain ⟨v, hv⟩ := radioPump_frame (busPump d)
  obtain ⟨c, hc⟩ := linkPump_frame (radioPump (busPump d))
  refine ⟨b, v, c, ?_, hl⟩
  unfold finish
  rw [hc, hv, hb]

theorem validFrame_keeps (d : Device) : KeepsBlocks d (validFrame d) := by
  unfold validFrame
  exact KeepsBlocks.after (setCondition_keeps _ _ _)
          ⟨rfl, rfl, rfl, rfl, rfl, rfl, rfl, rfl, rfl, rfl⟩

end Sys2Proof.Machine
end

