-- ==== Sys2Proof/Laws/Link.lean ====
section
/-! SUPPORT. What the bytes of the car link can do, said once: no valid frame, or exactly one; and that
closing a command twice is closing it once. -/

namespace Sys2Proof.Machine

/-! ### Closing a command -/

theorem busPump_vru (d : Device) : (busPump d).vru = d.vru := by
  unfold busPump; split
  · rfl
  · split <;> rfl

theorem busPump_clp (d : Device) : (busPump d).clp = d.clp := by
  unfold busPump; split
  · rfl
  · split <;> rfl

/-- The bus pump on a device whose bus, doors and standstill are those it has just left. -/
theorem busPump_again (d e : Device) (h : e.dbm = (busPump d).dbm) (doors : e.dcu = d.dcu) :
    busPump e = e := by
  unfold busPump at h
  cases hd : d.dbm.trans with
  | some t =>
    rw [hd] at h
    simp only at h
    unfold busPump
    rw [h, hd]
  | none =>
    rw [hd] at h
    simp only at h
    have rot : inRotation e = inRotation d := by
      funext n; unfold inRotation; rw [doors]
    cases hf : (turnOrder d.dbm.turn).find? (inRotation d) with
    | some n =>
      rw [hf] at h
      simp only at h
      unfold busPump
      rw [h]
    | none =>
      rw [hf] at h
      simp only at h
      unfold busPump
      rw [h, hd, rot, hf]

theorem radioPump_keeps_bus (d : Device) :
    (radioPump d).dbm = d.dbm ∧ (radioPump d).dcu = d.dcu ∧ (radioPump d).clp = d.clp := by
  unfold radioPump; split
  · exact ⟨rfl, rfl, rfl⟩
  · split
    · exact ⟨rfl, rfl, rfl⟩
    · split <;> exact ⟨rfl, rfl, rfl⟩

/-- The radio pump on a device whose radio is the one it has just left. -/
theorem radioPump_again (d e : Device) (h : e.vru = (radioPump d).vru) : radioPump e = e := by
  unfold radioPump at h
  cases ht : d.vru.tx with
  | some j =>
    rw [ht] at h
    simp only at h
    unfold radioPump
    rw [h, ht]
  | none =>
    rw [ht] at h
    simp only at h
    cases ha : d.vru.ackList with
    | cons a rest =>
      rw [ha] at h
      simp only at h
      unfold radioPump
      rw [h]
    | nil =>
      rw [ha] at h
      simp only at h
      cases hn : nextEntry d.vru.link d.vru.outbox with
      | some x =>
        rw [hn] at h
        simp only at h
        unfold radioPump
        rw [h]
        rfl
      | none =>
        rw [hn] at h
        simp only at h
        unfold radioPump
        rw [h, ht, ha, hn]

theorem linkPump_keeps_lines (d : Device) :
    (linkPump d).dbm = d.dbm ∧ (linkPump d).dcu = d.dcu ∧ (linkPump d).vru = d.vru := by
  unfold linkPump; split
  · exact ⟨rfl, rfl, rfl⟩
  · split
    · exact ⟨rfl, rfl, rfl⟩
    · split <;> exact ⟨rfl, rfl, rfl⟩

theorem linkPump_again (d : Device) : linkPump (linkPump d) = linkPump d := by
  cases ht : d.clp.tx with
  | some j => simp [linkPump, ht]
  | none =>
    cases hr : d.clp.replies with
    | cons r rest => simp [linkPump, ht, hr]
    | nil =>
      cases hn : d.clp.notices with
      | cons n rest => simp [linkPump, ht, hr, hn]
      | nil => simp [linkPump, ht, hr, hn]

theorem busPump_dcu (d : Device) : (busPump d).dcu = d.dcu := by
  unfold busPump; split
  · rfl
  · split <;> rfl

/-- Closing a command twice is closing it once. -/
theorem finish_finish (d : Device) : finish (finish d) = finish d := by
  unfold finish
  obtain ⟨b1, c1, v1⟩ := linkPump_keeps_lines (radioPump (busPump d))
  obtain ⟨b2, c2, -⟩ := radioPump_keeps_bus (busPump d)
  rw [busPump_again d _ (b1.trans b2) ((c1.trans c2).trans (busPump_dcu d)),
    radioPump_again (busPump d) _ v1, linkPump_again]

/-! ### Bytes of the car link -/

/-- Bytes that complete no valid frame leave nothing but what stays in assembly. -/
theorem takeLinkBytes_of_none (bytes : List Byte) (d : Device) (h : validFrames bytes d = []) :
    takeLinkBytes bytes d = keepAssembly bytes d := by
  unfold takeLinkBytes; rw [h]; rfl

/-- Bytes that complete one valid frame take it. -/
theorem takeLinkBytes_of_one (bytes frame : List Byte) (d : Device)
    (h : validFrames bytes d = [frame]) :
    takeLinkBytes bytes d = finish (takeFrame frame (keepAssembly bytes d)) := by
  unfold takeLinkBytes; rw [h]; rfl

end Sys2Proof.Machine
end

