-- ==== Sys2Proof/Laws/Load.lean ====
section
/-! SUPPORT. The load area keeps its canonical form under what writes it. -/

namespace Sys2Proof.Machine

/-- Filling a slot puts no index at the head that was not there or is not the slot's own. -/
theorem putSlot_head {α : Type} (i : Nat) (x : α) (l : List (Nat × α)) :
    ∃ y rest, putSlot i x l = y :: rest ∧ (y.1 = i ∨ ∃ z t, l = z :: t ∧ y = z ∧ z.1 < i) := by
  cases l with
  | nil => exact ⟨_, _, rfl, .inl rfl⟩
  | cons s t =>
    unfold putSlot
    split
    · exact ⟨_, _, rfl, .inl rfl⟩
    · split
      · exact ⟨_, _, rfl, .inl rfl⟩
      · exact ⟨_, _, rfl, .inr ⟨s, t, rfl, rfl, by omega⟩⟩

/-- A table in canonical form keeps it when a slot below its room is filled. -/
theorem putSlot_wf {α : Type} (room i : Nat) (x : α) (hi : i < room) (l : List (Nat × α))
    (h : tableWf room l = true) : tableWf room (putSlot i x l) = true := by
  induction l with
  | nil => simpa [putSlot, tableWf] using hi
  | cons s t ih =>
    unfold putSlot
    split
    · rename_i hlt
      simp only [tableWf, Bool.and_eq_true, decide_eq_true_eq]
      exact ⟨hlt, h⟩
    · split
      · rename_i _ heq
        cases t with
        | nil => simpa [tableWf] using hi
        | cons u r =>
          simp only [tableWf, Bool.and_eq_true, decide_eq_true_eq] at h ⊢
          exact ⟨by omega, h.2⟩
      · rename_i hlt heq
        have ht : tableWf room t = true := by
          cases t with
          | nil => rfl
          | cons u r =>
            simp only [tableWf, Bool.and_eq_true] at h
            exact h.2
        obtain ⟨y, rest, hp, hy⟩ := putSlot_head i x t
        have hw := ih ht
        rw [hp] at hw ⊢
        simp only [tableWf, Bool.and_eq_true, decide_eq_true_eq]
        refine ⟨?_, hw⟩
        rcases hy with hy | ⟨z, r, hz, hyz, _⟩
        · omega
        · subst hz hyz
          simp only [tableWf, Bool.and_eq_true, decide_eq_true_eq] at h
          exact h.1

end Sys2Proof.Machine
end

