-- ==== Sys2Proof/Laws/Table.lean ====
section
/-! SUPPORT. What the changes of an entry of the Brake Demand Table keep and set, and what the table is
after an event. -/

namespace Sys2Proof.Machine

/-! ### What every change of an entry keeps: its source and its row -/

@[simp] theorem raiseEntry_src (r : Raise) (e : Entry) : (raiseEntry r e).src = e.src := by
  unfold raiseEntry; dsimp only; split <;> (repeat' split) <;> rfl

@[simp] theorem raiseEntry_cfgLevel (r : Raise) (e : Entry) :
    (raiseEntry r e).cfgLevel = e.cfgLevel := by
  unfold raiseEntry; dsimp only; split <;> (repeat' split) <;> rfl

@[simp] theorem raiseEntry_mode (r : Raise) (e : Entry) : (raiseEntry r e).mode = e.mode := by
  unfold raiseEntry; dsimp only; split <;> (repeat' split) <;> rfl

@[simp] theorem clearEntry_src (e : Entry) : (clearEntry e).src = e.src := by
  unfold clearEntry; (repeat' split) <;> rfl

@[simp] theorem clearEntry_cfgLevel (e : Entry) : (clearEntry e).cfgLevel = e.cfgLevel := by
  unfold clearEntry; (repeat' split) <;> rfl

@[simp] theorem clearEntry_mode (e : Entry) : (clearEntry e).mode = e.mode := by
  unfold clearEntry; (repeat' split) <;> rfl

@[simp] theorem judgeAlarmEntry_src (b : Bool) (e : Entry) : (judgeAlarmEntry b e).src = e.src := by
  unfold judgeAlarmEntry; (repeat' split) <;> rfl

@[simp] theorem judgeAlarmEntry_cfgLevel (b : Bool) (e : Entry) :
    (judgeAlarmEntry b e).cfgLevel = e.cfgLevel := by
  unfold judgeAlarmEntry; (repeat' split) <;> rfl

@[simp] theorem judgeAlarmEntry_mode (b : Bool) (e : Entry) :
    (judgeAlarmEntry b e).mode = e.mode := by
  unfold judgeAlarmEntry; (repeat' split) <;> rfl

@[simp] theorem releasedEntry_src (e : Entry) : (releasedEntry e).src = e.src := rfl
@[simp] theorem releasedEntry_cfgLevel (e : Entry) : (releasedEntry e).cfgLevel = e.cfgLevel := rfl
@[simp] theorem releasedEntry_mode (e : Entry) : (releasedEntry e).mode = e.mode := rfl
@[simp] theorem newRow_src (l : Level) (m : LatchMode) (e : Entry) : (newRow l m e).src = e.src := rfl

@[simp] theorem resetEntry_src (e : Entry) : (resetEntry e).src = e.src := by
  unfold resetEntry; split <;> rfl

@[simp] theorem resetEntry_cfgLevel (e : Entry) : (resetEntry e).cfgLevel = e.cfgLevel := by
  unfold resetEntry; split <;> rfl

@[simp] theorem resetEntry_mode (e : Entry) : (resetEntry e).mode = e.mode := by
  unfold resetEntry; split <;> rfl

/-! ### The condition present flag -/

@[simp] theorem raiseEntry_cond (r : Raise) (e : Entry) : (raiseEntry r e).cond = true := by
  unfold raiseEntry; dsimp only; split <;> (repeat' split) <;> rfl

@[simp] theorem clearEntry_cond (e : Entry) : (clearEntry e).cond = false := by
  unfold clearEntry
  split
  · split
    · split <;> rfl
    · rfl
  · simp_all

/-! ### One source's entry -/

/-- A change that keeps sources leaves the entries in their order. -/
theorem onEntry_sources (src : Source) (f : Entry → Entry) (h : ∀ e, (f e).src = e.src)
    (l : List Entry) : (onEntry src f l).map (·.src) = l.map (·.src) := by
  unfold onEntry
  rw [List.map_map]
  refine List.map_congr_left fun e _ => ?_
  dsimp only [Function.comp]
  split
  · exact h e
  · rfl

/-- Another source's entries stay as they were. -/
theorem onEntry_other (src other : Source) (f : Entry → Entry) (h : ∀ e, (f e).src = e.src)
    (hne : other ≠ src) (l : List Entry) :
    (onEntry src f l).filter (fun e => e.src = other) = l.filter (fun e => e.src = other) := by
  induction l with
  | nil => rfl
  | cons e l ih =>
    by_cases he : e.src = src
    · have h1 : (f e).src ≠ other := by rw [h, he]; exact fun k => hne k.symm
      have h2 : e.src ≠ other := by rw [he]; exact fun k => hne k.symm
      have h3 : src ≠ other := fun k => hne k.symm
      simpa [onEntry, he, h1, h2, h3, h] using ih
    · by_cases ho : e.src = other
      · simpa [onEntry, he, ho, hne] using ih
      · simpa [onEntry, he, ho] using ih

/-! ### The table after an event -/

@[simp] theorem bdtAfter_entries (f : List Entry → List Entry) (d : Device) :
    (bdtAfter f d).entries = f d.bdt.entries := rfl

/-- After an event the applied level and the governing source are those of the entries, and an entry at
EMERGENCY stands under the hold. -/
theorem bdtAfter_lawful (f : List Entry → List Entry) (d : Device) : (bdtAfter f d).lawful := by
  refine ⟨rfl, rfl, fun h => ?_⟩
  change anyEmergency (f d.bdt.entries) = true at h
  change holdAfter (f d.bdt.entries) d.odu.standstill d.bdt.hold = true
  rw [holdAfter, h, Bool.true_or]

end Sys2Proof.Machine
end

