-- ==== Sys2Proof/Tests/Rig.lean ====
section
/-! SUPPORT. The small states that the tests stand on: the car and the line of the manual's worked
figures, a car at standstill in PREPARATION, and changes of it. -/

namespace Sys2Proof.Tests

open Sys2Proof.Machine

/-- The worked-case figures of chapter 1; a dash there is filled with a value in range. -/
def car : CarConfig :=
  { carIdentity := 7, length := 16000, bogieA := 3000, bogieB := 13000, reader := 1000
    side1 := some .left, side2 := some .left, side3 := some .right, side4 := some .right
    rackPitch := 100, pulsesPerRev := 100, circInitial := 26000, circMin := 25000
    circMax := 27000, calStep := 2, calMin := 4, calMax := 12, calDeadBand := 2, wheelGrowth := 5
    aSb := 3200, aEb := 3800, tSb := 1500, tEb := 800, sbMargin := 300, ebMargin := 500
    blendSpeed := 1000, feedbackTime := 1500, maxRack := 6000, maxAdhesion := 11000
    rackEntryLimit := 1500, degradedCeiling := 2800, lookAhead := 400000, uMax := 5000
    rollAway := 300, meshTolerance := 2, silenceTime := 6, shadowSilence := 60
    reportInterval := 5, ackTimeout := 3, doorAttempts := 3, reopenDwell := 2, testHold := 10
    testSettle := 2, testCycles := 1, creepTolerance := 50, wakeInterval := 10
    linkSilence := 2000 }

/-- A segment of the worked line. -/
def seg (start : Nat) (kind : Kind) (gradient up down : Nat) (shadow noStop : Bool) : Segment :=
  ⟨BitVec.ofNat 24 start, kind, BitVec.ofNat 16 gradient, BitVec.ofNat 16 up,
   BitVec.ofNat 16 down, shadow, noStop⟩

/-- The line of chapter 2 with segment 3 at its corrected gradient of +290. -/
def lineSegments : List Segment :=
  [seg 0 .adhesion 20 8000 8000 false false, seg 410000 .rackEntry 60 3000 3000 false false,
   seg 440000 .rack 250 6000 5600 false false, seg 1180000 .rack 290 5000 4200 true true,
   seg 1520000 .rack 180 6000 6000 false false, seg 2050000 .rackEntry 40 3000 3000 false false,
   seg 2090000 .adhesion 0 10000 10000 false false]

def lineStations : List Station :=
  [⟨1#8, 20000#24, 80000#24, .leftOfUp⟩, ⟨2#8, 1600000#24, 1640000#24, .rightOfUp⟩]

def lineMarkers : List MarkerRec := [⟨101#16, 100000#24, 200#16⟩, ⟨104#16, 1530000#24, 100#16⟩]

/-- The worked line as a profile; its digest stands for the one a commit computes. -/
def line : Profile :=
  { lineLength := 2400000#24, version := 7#32, digest := some 1#32, segments := lineSegments
    stations := lineStations, markers := lineMarkers }

/-- The load area that holds the same records. -/
def lineLoad : LoadArea :=
  { lineLength := 2400000#24, version := 7#32, segments := lineSegments.zipIdx.map (fun x => (x.2, x.1))
    stations := lineStations.zipIdx.map (fun x => (x.2, x.1))
    markers := lineMarkers.zipIdx.map (fun x => (x.2, x.1)) }

/-- An entry at rest. -/
def rest (src : Source) : Entry := defaultEntry src

/-- MODE at FULL, as in PREPARATION with a configuration (R2). -/
def modeFull : Entry :=
  { rest .mode with state := .active, cond := true, carried := .full, raisedAt := some .unplaced }

/-- The entries with one in place of its source's. -/
def withEntry (e : Entry) (l : List Entry) : List Entry := onEntry e.src (fun _ => e) l

/-- A table with some entries, every figure computed from them. -/
def tableOf (l : List Entry) (hold : Bool) : Bdt :=
  { entries := l, applied := appliedLevel l, governing := governingSource l, hold := hold
    svcDecel := serviceDecel (some car) l, handleFaulty := false }

def locked : DoorRec := ⟨.locked, .lock, 0, none, some ⟨.closed, true, false, false, false, 0#8⟩⟩

def doorsLocked : Dcu := ⟨⟨locked, locked, locked, locked⟩, none⟩

/-- A car at standstill in PREPARATION at platform 2, end 1 DOWN, configured, with the worked line
valid, the test PASSED, every door LOCKED, the link ONLINE and nothing waiting to be sent. -/
def rig : Device :=
  let d := blankDevice 0 resetPins
  setOutputs { d with
    mdc := { d.mdc with config := some car, orientation := some .down, startUpHold := false,
                        causePosition := false, causeRadio := false }
    prs := ⟨line, true, lineLoad⟩
    odu := { d.odu with known := true, position := 1630000, uBase := 150, standstill := true,
                        quiet := 20, calib := some ⟨26000, 4, .longer⟩ }
    bdt := tableOf (withEntry modeFull (allSources.map rest)) false
    bau := { d.bau with watch := .normal, reading := 240, test := { d.bau.test with result := .passed } }
    dcu := doorsLocked
    dbm := { d.dbm with trans := some ⟨.d1, .window 0, 0, 0, false⟩ }
    vru := { d.vru with link := .online, silence := some 0 } }

/-- The rig in SERVICE, MODE at rest. -/
def inService : Device :=
  setOutputs { rig with
    mdc := { rig.mdc with mode := .service }
    bdt := tableOf (allSources.map rest) false }

/-- The rig moving DOWN on the rack with bogie A meshed (chapter 4's approach). -/
def moving (position speed : Nat) : Device :=
  { inService with
    odu := { inService.odu with
      position := position, standstill := false, quiet := 0, dir := some .down, speed := speed
      bogies := ⟨meshStart .meshed, meshStart .meshed⟩, source := .rack .a }
    aru := { inService.aru with
      selDir := some .down, auth := some ⟨1, .down, 600000, none, false⟩
      current := [⟨12, 760000, 802000, 2000, .both, true⟩] } }

/-- A state with nothing else waiting. -/
def at0 (d : Device) : State := ⟨d, []⟩

/-- A request of the right length. -/
def q : Req := ⟨9#8, true⟩

/-- A telegram for the car. -/
def down (payload : List Byte) : Telegram := ⟨7#8, 1#8, payload⟩

/-- What a command leaves; the state itself where it answers no next state. -/
def after (c : Instr) (d : Device) : Device :=
  match exec c (at0 d) with
  | .next t => t.dev
  | _ => d

end Sys2Proof.Tests
end

