-- ==== Sys2Proof/Tests/Slice0.lean ====
section
/-! SUPPORT. Tests: the refusals of `WellFormed`, the figures that the manual works out, and the rows of
its tables. Every expected result is the manual's, or worked by hand from its rule. -/

namespace Sys2Proof.Tests

-- One theorem at a time: each of Lean's own threads takes a large stack.
set_option Elab.async false

open Sys2Proof.Machine

/-! ### WellFormed refuses an ill-formed command -/

theorem test_wf_batterySample : (Instr.batterySample 1001).wf = false
    ∧ (Instr.batterySample 1000).wf = true := by decide +kernel

theorem test_wf_unknownKind : (Instr.unknownKind 0#8 0x3F#8).wf = false
    ∧ (Instr.unknownKind 0#8 0x27#8).wf = true := by decide +kernel

/-- A whole frame with a right CRC is not a discarded frame. -/
theorem test_wf_frameDiscarded :
    (Instr.frameDiscarded ([0xA5#8, 0#8, 0x3F#8, 5#8] ++ bytes16 (crc16 [0#8, 0x3F#8, 5#8]))).wf = false
    ∧ (Instr.frameDiscarded [0xA5#8, 0#8, 0x3F#8, 5#8, 0#8, 0#8]).wf = true := by decide +kernel

theorem test_wf_badAnswer : (Instr.badAnswer [1#8, 1#8, 1#8, 1#8, 0#8]).wf = false := by decide +kernel

theorem test_wf_unknownTelegramKind :
    (Instr.unknownTelegramKind 9#8 (down [])).wf = false
    ∧ (Instr.unknownTelegramKind 0x0B#8 (down [])).wf = true := by decide +kernel

theorem test_wf_telegram : (Instr.stopOrder (down (List.replicate 41 0#8))).wf = false := by decide +kernel

/-! ### CRCs, over the ASCII bytes of the digits 1 to 9 (check values of the three CRCs) -/

def digits : List Byte :=
  [0x31#8, 0x32#8, 0x33#8, 0x34#8, 0x35#8, 0x36#8, 0x37#8, 0x38#8, 0x39#8]

theorem test_crc8 : crc8 digits = 0xF4#8 := by decide +kernel
theorem test_crc16 : crc16 digits = 0x29B1#16 := by decide +kernel
theorem test_crc32 : crc32 digits = 0x0376E6E7#32 := by decide +kernel

/-! ### The step and the reset -/

/-- A step takes the command at the front and leaves the rest waiting. -/
theorem test_step_takes_the_front :
    (match step ⟨rig, [.plungerEdge true, .powerOn]⟩ with
     | .next t => t.pending == [.powerOn] && t.dev.bdt.present .plunger
     | _ => false) = true := by decide +kernel

/-- The reset is what POWER_ON and a first sample of 24.0 V leave (R13, R120, log 3). -/
theorem test_reset_is_power_on :
    State.reset.dev = after (.batterySample 240) (blankDevice 0 resetPins) := by decide +kernel

/-- R120: 21.9 V at the first sample gives LOW, and 16.5 V does not end a CUTOFF. -/
theorem test_first_sample_low :
    (after (.batterySample 219) (blankDevice 0 resetPins)).bau.watch = .low
    ∧ (after (.batterySample 179) (blankDevice 0 resetPins)).bau.watch = .cutoff := by decide +kernel

/-! ### Chapter 1 -/

theorem test_configure_refuses_first_bad_field :
    (after (.configureCar q { car with length := 4999, uMax := 0 }) rig).mdc.config = some car := by decide +kernel

theorem test_enterService_degraded_without_radio :
    (after (.enterService q) { rig with mdc := { rig.mdc with causeRadio := true },
                                        vru := { rig.vru with link := .lost } }).mdc.mode
      = .degraded := by decide +kernel

theorem test_enterStabled_springs_applied :
    (after (.enterStabled q) inService).bau.channels.a.commanded = .springApplied := by decide +kernel

/-! ### Chapter 2 -/

/-- R29: |g| × 981 / 100 rounded up. -/
theorem test_gravity : gravityPull 250 = 2453 ∧ gravityPull 298 = 2924 ∧ gravityPull 0 = 0 := by decide +kernel

/-- The worked load passes, and a gradient of +298 in segment 3 fails check 5 at index 3. -/
theorem test_commit_checks :
    commitFailure (some car) lineLoad = none
    ∧ commitFailure (some car)
        { lineLoad with
          segments := putSlot 3 (seg 1180000 .rack 298 5000 4200 true true) lineLoad.segments }
      = some (5, some 3) := by decide +kernel

/-- A load area of one segment. -/
def shortLoad : LoadArea := ⟨2400000#24, 8#32, [(0, seg 0 .adhesion 20 8000 8000 false false)], [], []⟩

theorem test_commit_sets_valid :
    (after (.commitProfile q) { rig with prs := ⟨line, false, shortLoad⟩ }).prs.valid = true := by decide +kernel

theorem test_loadStation_index_32_refused :
    (after (.loadStation q 32#8 ⟨1#8, 0#24, 9#24, 1#8⟩) rig).prs = rig.prs := by decide +kernel

/-! ### Chapter 3 -/

/-- R58 with the worked figures: 248 pulses at 26,000 vote SHORTER, 246 at 25,998 do not vote. -/
theorem test_calibration_votes : calVote car 26000 248 = some .shorter
    ∧ calVote car 25998 246 = none := by decide +kernel

/-- R39: 26,000 tenths over 100 pulses are 26 mm. -/
theorem test_wheelPulse_distance : convertPulse 1000 26000 1 0 = (26, 0)
    ∧ convertPulse 1000 25997 (-1) (-5) = (26, -2) := by decide +kernel

theorem test_markerRead_places_the_reader :
    (after (.markerRead 104#16) rig).odu.position = 1545000
    ∧ (after (.markerRead 104#16) rig).odu.uBase = 100 := by decide +kernel

theorem test_speedSample_sums_four :
    (after (.speedSample 0 false)
      { inService with odu := { inService.odu with dists := [90, 100, 110, 120], sampleAcc := 100 } }).odu.speed
      = 2000 := by decide +kernel

/-! ### Chapter 4: the worked curves -/

theorem test_curve_place_2 :
    ((evaluated car (moving 838000 5000)).pc, (evaluated car (moving 838000 5000)).p,
      (evaluated car (moving 838000 5000)).e, (evaluated car (moving 838000 5000)).status)
      = (5600, 4738, 5600, .warning) := by decide +kernel

theorem test_curve_place_3 :
    ((evaluated car (moving 830000 5000)).p, (evaluated car (moving 830000 5000)).e,
      (evaluated car (moving 830000 5000)).overspeedSb, (evaluated car (moving 830000 5000)).status)
      = (3240, 5014, true, .intervention) := by decide +kernel

theorem test_stoppingDistance : stoppingDistance 5000 1500 747 = 24234 := by decide +kernel

/-! ### Chapter 5 -/

theorem test_plunger_emergency :
    (after (.plungerEdge true) inService).bdt.governing = some .plunger
    ∧ (after (.plungerEdge true) inService).bau.ebLine = true := by decide +kernel

/-- R94 and R91: the entry waits under its latch, and its release at standstill ends the hold. -/
theorem test_hold_outlives_plunger :
    (after (.plungerEdge false) (after (.plungerEdge true) (moving 700000 5000))).bdt.hold = true
    ∧ (after (.ackDemand q 1)
        (after (.plungerEdge false) (after (.plungerEdge true) inService))).bdt.hold = false := by decide +kernel

theorem test_brakeRequest_notify_refused :
    (after (.brakeRequest q (some .notify) 0) rig).bdt = rig.bdt := by decide +kernel

theorem test_handle_half :
    (after (.speedSample 500 false) inService).bdt.svcDecel = 1600 := by decide +kernel

/-! ### Chapter 6 -/

theorem test_cutoff_below_165 :
    (after (.batterySample 164) rig).bau.watch = .cutoff
    ∧ (after (.batterySample 165) rig).bau.watch = .low := by decide +kernel

theorem test_brakeTest_begins :
    (after (.startBrakeTest q none) rig).bau.channels.a.commanded = .fullApplied
    ∧ (after (.startBrakeTest q none) rig).bau.channels.b.commanded = .released := by decide +kernel

/-! ### Chapters 7 and 8 -/

/-- Platform 2 lies right of UP; end 1 faces DOWN, so it is the car's left, doors 1 and 2. -/
theorem test_release_left_side :
    (after (.releaseDoors q (some .left)) inService).dcu.doors.d1.order = .release
    ∧ (after (.releaseDoors q (some .right)) inService).dcu.doors.d3.order = .lock := by decide +kernel

theorem test_third_miss_loses_unit :
    (after .answerWindowClose { rig with dbm := { rig.dbm with
      links := rig.dbm.links.set .d1 ⟨.ok, 2, false, false, none⟩ } }).dcu.doors.d1.state = .fault := by decide +kernel

/-! ### Chapter 9 -/

theorem test_poll_queues_report :
    ((after (.poll (down [])) rig).vru.outbox.map (·.kind)) = [.positionReport] := by decide +kernel

theorem test_duplicate_number_wraps : ackedNumbers [250#8, 0x80#8, 0x01#8] = [250#8, 9#8] := by decide +kernel

/-! ### Chapter 10 -/

theorem test_grant_applied :
    (after (.authorityGrant (down [0#8, 5#8, 2#8, 0x0C#8, 0x00#8, 0x00#8, 0#8, 0#8]))
      { inService with aru := { inService.aru with selDir := some .down } }).aru.auth
      = some ⟨5, .down, 786432, none, false⟩ := by decide +kernel

theorem test_lift_is_staged :
    let d := { inService with aru := { inService.aru with
      current := [⟨12, 760000, 802000, 2000, .both, true⟩] } }
    (after (.restrictionLift (down [0#8, 12#8])) d).aru.staged = [.lift 12]
    ∧ (after (.restrictionLift (down [0#8, 12#8])) d).aru.current = d.aru.current := by decide +kernel

/-! ### Chapter 11 -/

theorem test_reply_goes_before_notice :
    ((after (.getStatus q) { rig with clp := { rig.clp with notices := [.markerUnknown 9#16] } }).clp.tx).isSome
      = true
    ∧ (after (.getStatus q) { rig with clp := { rig.clp with
        notices := [.markerUnknown 9#16] } }).clp.notices = [.markerUnknown 9#16] := by decide +kernel

/-! ### Witnesses: for each statement with hypotheses, a state and operands that meet them, clause by
clause at the ends of their ranges -/

/-- The rig with all its laws kept, about to take a command. -/
theorem witness_laws :
    Safe rig ∧ ∃ t, step ⟨rig, [.plungerEdge true]⟩ = .next t := by
  refine ⟨⟨?_, ?_, ?_, ?_, ?_, ?_, ?_, ?_, ?_, ?_, ?_⟩, _, rfl⟩
  · unfold TableLaw Bdt.ordered Bdt.lawful; decide +kernel
  · unfold TractionLaw; decide +kernel
  · unfold OutboxLaw; decide +kernel
  · unfold SetsLaw; decide +kernel
  · unfold SpeedLaw; decide +kernel
  · unfold RoomLaw; decide +kernel
  · unfold LoadLaw; decide +kernel
  · unfold OutputsLaw; decide +kernel
  · refine fun _ => ⟨fun rel h => ?_, fun n h => ?_⟩
    · have none_set : rig.dcu.release = none := by decide +kernel
      rw [none_set] at h
      cases h
    · cases n <;> exact absurd h (by decide +kernel)
  · refine ⟨by unfold Bdt.ordered; decide +kernel, by decide +kernel, by decide +kernel,
      fun n h => ?_, fun n => ?_⟩
    · cases n <;> exact absurd rfl h
    · cases n <;> decide
  · unfold ServiceLaw; decide +kernel

/-- The rig in phase 1 of a test, and stabled. -/
def testing : Device := after (.startBrakeTest q none) rig
def stabled : Device := after (.enterStabled q) inService

/-- A plunger entry HELD at standstill, the hold set. -/
def heldPlunger : Device := after (.plungerEdge false) (after (.plungerEdge true) inService)

theorem witness_TableLawKept :
    TableLaw heldPlunger ∧ heldPlunger.bdt.hold = true ∧ rig.bdt.ordered
      ∧ warmRestart rig ∈ [warmRestart rig, coldStart 180 rig]
      ∧ ∃ t, step ⟨heldPlunger, [.ackDemand q 1]⟩ = .next t ∧ t.dev.bdt.hold = false := by
  refine ⟨?_, by decide +kernel, ?_, .head _, _, rfl, by decide +kernel⟩
  · unfold TableLaw Bdt.ordered Bdt.lawful
    decide +kernel
  · unfold Bdt.ordered
    decide +kernel

/-- The rig with a count of notices waiting. -/
def waiting (count : Nat) : Device :=
  { rig with clp := { rig.clp with notices := List.replicate count (.markerUnknown 9#16) } }

theorem witness_RoomLawKept :
    (∀ n ∈ [31, 32], RoomLaw (waiting n)) ∧ (waiting 31).clp.notices.length < 32
      ∧ 32 ≤ (waiting 32).clp.notices.length ∧ (waiting 32).clp.notices.length ≤ 32
      ∧ ∃ t, step ⟨waiting 31, [.plungerEdge true]⟩ = .next t ∧ t.dev.clp.lost = true := by
  refine ⟨?_, by decide, by decide, by decide, _, rfl, by decide +kernel⟩
  unfold RoomLaw
  decide

/-- The rig in SERVICE with a request of the link standing, the blend latch as given. -/
def braked (level : Level) (blend : Bool) (config : Option CarConfig) : Device :=
  let entries := withEntry { rest .linkRequest with
    state := .active, cond := true, carried := level, decel := some 1600 } (allSources.map rest)
  setOutputs { inService with
    mdc := { inService.mdc with config := config }
    bdt := { tableOf entries false with svcDecel := serviceDecel config entries }
    bau := { inService.bau with blend := blend } }

theorem witness_OutputsLawKept :
    (∀ d ∈ [inService, testing, stabled, heldPlunger, braked .notify false (some car),
        braked .cut true (some car), braked .service false (some car),
        braked .service true (some car), braked .service true none, braked .full true (some car)],
      OutputsLaw d ∧ d.bau.watch ≠ .cutoff)
      ∧ testing.bau.run ≠ none ∧ inService.bau.run = none ∧ inService.bdt.applied = .none
      ∧ stabled.mdc.mode = .stabled ∧ heldPlunger.bdt.hold = true
      ∧ (∀ l ∈ [Level.cut, .service, .full],
          (braked l true (some car)).bdt.applied = l ∧ (braked l true (some car)).bdt.hold = false)
      ∧ (braked .service true (some car)).bau.channels.a.fullValve = .pulsed 500 := by
  unfold OutputsLaw
  decide +kernel

theorem witness_ConfigurationAndProfileFrame :
    (∀ p r, Instr.clearLoad q ≠ .configureCar p r) ∧ (∀ p v, Instr.clearLoad q ≠ .setOrientation p v)
      ∧ (∀ p, Instr.clearLoad q ≠ .commitProfile p) ∧ Instr.clearLoad q ≠ .powerOn
      ∧ (∀ r, Instr.clearLoad q ≠ .batterySample r)
      ∧ (∀ b, Instr.clearLoad q = .frameDiscarded b → validFrames b rig = [])
      ∧ validFrames [0xA5#8] rig = [] ∧ ∃ t, exec (.clearLoad q) (at0 rig) = .next t :=
  ⟨nofun, nofun, nofun, nofun, nofun, nofun, by decide +kernel, _, rfl⟩

/-- The part in CUTOFF. -/
def dark : Device := blankDevice 0 resetPins

theorem witness_CutoffTakesNothing :
    (at0 dark).dev.bau.watch = .cutoff ∧ Instr.plungerEdge true ≠ .powerOn
      ∧ ∀ r, Instr.plungerEdge true ≠ .batterySample r := ⟨by decide, nofun, nofun⟩

theorem witness_PowerOnStarts :
    (at0 rig).dev.pins.plunger = false ∧ 180 ≤ 180 ∧ ∃ t, exec .powerOn (at0 rig) = .next t :=
  ⟨by decide, by decide, _, rfl⟩

/-- The rig with the supply LOW. -/
def lowSupply : Device := { rig with bau := { rig.bau with watch := .low, reading := 209 } }

/-- The rig before its first sample, and cut off by the supply. -/
def firstSampled : Device := { rig with bau := { rig.bau with firstSample := true } }
def darkAgain : Device := after (.batterySample 164) rig

theorem witness_SupplyWatch :
    rig.bau.watch = .normal ∧ rig.bau.firstSample = false ∧ lowSupply.bau.watch = .low
      ∧ lowSupply.bau.firstSample = false ∧ firstSampled.bau.watch ≠ .cutoff
      ∧ firstSampled.bau.firstSample = true ∧ darkAgain.bau.watch = .cutoff
      ∧ darkAgain.bau.resetCause = .supply ∧ (164 < 165 ∧ 165 ≤ 165 ∧ 165 < 210 ∧ 209 < 210)
      ∧ (210 ≤ 210 ∧ 219 < 220 ∧ 220 ≤ 220 ∧ 179 < 180 ∧ 180 ≤ 180) := by decide +kernel

/-- The rig with its profile not valid. -/
def noProfile : Device := { rig with prs := { rig.prs with valid := false } }

/-- Whether a reply is on the line. -/
def replyOnLine (d : Device) : Bool :=
  match d.clp.tx with
  | some (.reply _) => true
  | _ => false

/-- A device with a RESTART accepted, and with its reply on the line. -/
def accepted (d : Device) : Device := { d with clp := { d.clp with restarting := true } }
def sendingRestart (d : Device) : Device :=
  { accepted d with
    clp := { (accepted d).clp with
      tx := some (.reply ⟨0#8, none, .nothing, true⟩), silence := some ⟨0, 2000000⟩ } }

theorem witness_WarmRestartKeeps :
    (∀ d ∈ [rig, inService, testing, noProfile], (sendingRestart d).bau.watch ≠ .cutoff
        ∧ (sendingRestart d).clp.tx = some (.reply ⟨0#8, none, .nothing, true⟩)
        ∧ (sendingRestart d).bdt.ordered)
      ∧ rig.bau.run = none ∧ testing.bau.run ≠ none ∧ rig.mdc.config ≠ none ∧ rig.prs.valid = true
      ∧ noProfile.prs.valid = false
      ∧ (accepted rig).bau.watch ≠ .cutoff
      ∧ (∀ x, (accepted rig).clp.tx = some (.reply x) → x.ofRestart = false) := by
  refine ⟨?_, by decide +kernel, by decide +kernel, by decide, by decide, by decide, by decide, ?_⟩
  · unfold Bdt.ordered
    decide +kernel
  · have no_reply : replyOnLine (accepted rig) = false := by decide +kernel
    intro x h
    rw [replyOnLine, h] at no_reply
    cases no_reply

/-- With another frame than the RESTART reply on the line WARM_RESTART restarts nothing (log 18). -/
theorem test_warmRestart_waits_for_the_reply :
    (after .warmRestart (accepted inService)).mdc.mode = .service
    ∧ (after .warmRestart (sendingRestart inService)).mdc.mode = .preparation := by decide +kernel

/-- inService in a mode given. -/
def inMode (m : Mode) : Device :=
  { inService with mdc := { inService.mdc with mode := m, wakeTimer := some ⟨0, 10000000⟩ } }

theorem witness_ModeRequestsComplete :
    Taken q (at0 rig) ∧ Taken q (at0 inService) ∧ Taken q (at0 (inMode .waking))
      ∧ Taken q (at0 (inMode .stabled))
      ∧ (validFrame rig).mdc.mode = .preparation ∧ (validFrame rig).odu.standstill = true
      ∧ (validFrame rig).bau.run = none ∧ firstBadField car = none
      ∧ firstFailure (serviceChecks (validFrame rig)) = none
      ∧ (validFrame inService).mdc.mode.inService = true ∧ (validFrame inService).odu.standstill = true
      ∧ allSecured (validFrame inService) = true
      ∧ (validFrame (inMode .waking)).mdc.mode = .waking
      ∧ (validFrame (inMode .stabled)).mdc.mode = .stabled := by
  unfold Taken
  decide +kernel

/-- The rig with one of the things ENTER_SERVICE looks at changed. -/
def noConfig : Device := { rig with mdc := { rig.mdc with config := none } }
def noOrientation : Device := { rig with mdc := { rig.mdc with orientation := none } }
def noTest : Device := { rig with bau := { rig.bau with test := emptyTest } }
def noPosition : Device := { rig with odu := { rig.odu with known := false } }
def atUMax (u : Nat) : Device := { rig with odu := { rig.odu with uBase := u } }
def rolling : Device := { rig with odu := { rig.odu with standstill := false } }

theorem witness_EnterServiceRefused :
    (Taken q (at0 (inMode .waking)) ∧ (validFrame (inMode .waking)).mdc.mode = .waking)
      ∧ (Taken q (at0 inService) ∧ (validFrame inService).mdc.mode = .service)
      ∧ (Taken q (at0 noConfig) ∧ (validFrame noConfig).mdc.mode = .preparation
          ∧ (validFrame noConfig).mdc.config = none)
      ∧ (Taken q (at0 noProfile) ∧ (validFrame noProfile).mdc.config = some car
          ∧ (validFrame noProfile).prs.valid = false)
      ∧ (Taken q (at0 noOrientation) ∧ (validFrame noOrientation).prs.valid = true
          ∧ (validFrame noOrientation).mdc.orientation = none)
      ∧ (Taken q (at0 noTest) ∧ (validFrame noTest).mdc.orientation ≠ none
          ∧ (validFrame noTest).bau.test.result ≠ .passed) := by
  unfold Taken
  decide +kernel

theorem witness_EnterServiceRefused_position :
    (Taken q (at0 noPosition) ∧ (validFrame noPosition).odu.known = false)
      ∧ (Taken q (at0 (atUMax 5001)) ∧ car.uMax < uncertainty (validFrame (atUMax 5001)))
      ∧ (Taken q (at0 rolling) ∧ (validFrame rolling).odu.known = true
          ∧ (validFrame rolling).prs.valid = true ∧ (validFrame rolling).bau.test.result = .passed
          ∧ uncertainty (validFrame rolling) ≤ car.uMax ∧ (validFrame rolling).odu.standstill = false)
      ∧ uncertainty (atUMax 5000) ≤ car.uMax := by
  unfold Taken
  decide +kernel

theorem witness_ModeChangeSetsEntry :
    (∀ d ∈ [rig, inService, inMode .stabled], ∀ e ∈ d.bdt.entries, e.src = .mode →
      e.mode = .flow ∧ (e.state = .idle ∨ (e.state = .active ∧ e.cond = true)))
      ∧ rig.mdc.mode ≠ .service ∧ rig.mdc.mode ≠ .stabled ∧ inService.mdc.mode ≠ .preparation
      ∧ (∃ e ∈ (changeMode .service rig).bdt.entries, e.src = .mode)
      ∧ (∃ e ∈ (changeMode .preparation inService).bdt.entries, e.src = .mode) := by decide +kernel

theorem witness_ConfigureCarRefused :
    Taken q (at0 rig) ∧ (validFrame rig).mdc.mode = .preparation
      ∧ (validFrame rig).odu.standstill = true ∧ (validFrame rig).bau.run = none
      ∧ firstBadField { car with length := 4999 } = some 2
      ∧ firstBadField { car with linkSilence := 60001 } = some 47 := by
  unfold Taken
  decide +kernel

theorem witness_ConfigureCarEffect : rig.bau.run = none := by decide

theorem witness_WakeTimerExpiry :
    (inMode .waking).bau.watch ≠ .cutoff ∧ (inMode .waking).mdc.wakeTimer ≠ none
      ∧ rig.bau.watch ≠ .cutoff ∧ rig.mdc.wakeTimer = none := by decide

theorem witness_LoadRequestsComplete :
    Taken q (at0 rig) ∧ (validFrame rig).mdc.mode = .preparation
      ∧ (segmentOf ⟨0#24, 1#8, 0#16, 1#16, 1#16, 3#8⟩).isSome = true
      ∧ (31#8).toNat < 32 ∧ (stationOf ⟨1#8, 0#24, 1#24, 3#8⟩).isSome = true ∧ (127#8).toNat < 128
      ∧ markerAccepted ⟨1#16, 0#24, 50#16⟩ = true ∧ markerAccepted ⟨1#16, 0#24, 2000#16⟩ = true := by
  unfold Taken
  decide +kernel

theorem witness_LoadFillsOneSlot :
    255 < 256 ∧ tableWf 256 lineLoad.segments = true ∧ (254 : Nat) ≠ 255
      ∧ 31 < 32 ∧ tableWf 32 lineLoad.stations = true ∧ (30 : Nat) ≠ 31
      ∧ 127 < 128 ∧ tableWf 128 lineLoad.markers = true ∧ (126 : Nat) ≠ 127 := by decide

theorem witness_CommitProfile :
    Taken q (at0 rig) ∧ (validFrame rig).mdc.mode = .preparation
      ∧ commitFailure (validFrame rig).mdc.config (validFrame rig).prs.load = none
      ∧ Taken q (at0 { rig with prs := emptyPrs })
      ∧ commitFailure (some car) emptyPrs.load = some (2, none) := by
  unfold Taken
  decide +kernel

theorem witness_ProfileQueriesComplete :
    Taken q (at0 rig) ∧ Taken q (at0 { rig with prs := emptyPrs })
      ∧ (validFrame { rig with prs := emptyPrs }).prs.cur.segments = []
      ∧ (validFrame rig).prs.cur.segments ≠ [] ∧ (validFrame rig).prs.cur.segments.length ≤ 7
      ∧ (validFrame rig).prs.cur.segments[6]?.isSome = true := by
  unfold Taken
  decide +kernel

theorem witness_ExtentsPartitionTheLine :
    line.segments ≠ [] ∧ badStart line.lineLength.toNat 0 none line.segments = none
      ∧ 2400000 ≤ line.lineLength.toNat ∧ ((-1 : Int) < 0)
      ∧ ((line.lineLength.toNat : Int) < 2400001) := by decide +kernel

/-- A car whose bogie A stands in MESHED with counts given, the source. -/
def meshed (rack pinion : Nat) : Device :=
  { moving 700000 5000 with
    odu := { (moving 700000 5000).odu with
      bogies := ⟨⟨.meshed, rack, pinion, 0, 0⟩, meshStart .meshed⟩
      window := some ⟨.towardsEnd1, 63, 240⟩ } }

theorem witness_EdgesComplete :
    rig.bau.watch ≠ .cutoff ∧ rig.odu.source ≠ .rack .a
      ∧ (meshed 31 30).bau.watch ≠ .cutoff ∧ (meshed 31 30).odu.source = .rack .a
      ∧ ((meshed 31 30).odu.bogies.get .a).state = .meshed
      ∧ 31 ≤ ((meshed 31 30).odu.bogies.get .a).rackCount
      ∧ (meshed 31 30).odu.window = some ⟨.towardsEnd1, 63, 240⟩
      ∧ ∃ t, exec (.rackToothEdge .a .towardsEnd1) (at0 (meshed 31 30)) = .next t :=
  ⟨by decide, by decide, by decide, by decide, by decide, by decide, by decide, _, rfl⟩

theorem witness_WheelRemainderIsExact :
    0 < 1000 ∧ ((-1 : Int) = 1 ∨ (-1 : Int) = -1) ∧ (-999 : Int).natAbs < 1000 ∧ 1000 ≤ 1000 := by decide

theorem witness_PositionIsClamped :
    rig.odu.known = true ∧ rig.prs.cur.segments ≠ []
      ∧ movedBy .down rig.odu.position 1630000 = 0 ∧ movedBy .down rig.odu.position 1630001 < 0
      ∧ movedBy .up rig.odu.position 770000 = rig.prs.cur.lineLength.toNat
      ∧ (rig.prs.cur.lineLength.toNat : Int) < movedBy .up rig.odu.position 770001 := by decide

theorem witness_MarkerRead :
    noOrientation.mdc.orientation = none ∧ noConfig.mdc.config = none
      ∧ rig.mdc.orientation = some .down ∧ rig.mdc.config = some car
      ∧ rig.prs.cur.marker 9#16 = none ∧ (rig.prs.cur.marker 104#16).isSome = true
      ∧ positionFor car .down 1530000 car.reader = 1545000
      ∧ (readMarker 104#16 rig).odu.source = rig.odu.source := by decide +kernel

theorem witness_MeshWindowJudged :
    TableLaw (meshed 31 30) ∧ (meshed 31 30).mdc.config = some car
      ∧ (32 ≤ 30 + car.meshTolerance ∧ 34 ≤ 32 + car.meshTolerance)
      ∧ (29 + car.meshTolerance < 32 ∧ 32 + car.meshTolerance < 35)
      ∧ (∀ d ∈ [meshed 31 29, meshed 31 30, meshed 31 34, meshed 31 35],
          (d.odu.bogies.get .a).state = .meshed ∧ (d.odu.bogies.get .a).rackCount = 31) := by
  unfold TableLaw Bdt.ordered Bdt.lawful
  decide +kernel

theorem witness_SampleSpeed : rig.odu.dists = [0, 0, 0, 0] := by decide

/-- The rig one quiet sample short of standstill. -/
def nearlyStill : Device := { rig with odu := { rig.odu with standstill := false, quiet := 19 } }

theorem witness_SamplesComplete :
    nearlyStill.bau.watch ≠ .cutoff ∧ nearlyStill.odu.standstill = false
      ∧ nearlyStill.odu.edgeSince = false ∧ 19 ≤ nearlyStill.odu.quiet
      ∧ Taken q (at0 rig) ∧ firstFailure (positionChecks 0 500 (validFrame rig)) = none
      ∧ firstFailure (positionChecks 2400000 16777215 (validFrame rig)) = none := by
  unfold Taken
  decide +kernel

/-- A car with its passenger alarm entry given, in or outside the no-stop segment 3. -/
def alarmed (position : Nat) (state : EntryState) (cond : Bool) : Device :=
  { moving position 5000 with bdt := { inService.bdt with
      entries := withEntry { rest .passengerAlarm with state := state, cond := cond }
        inService.bdt.entries } }

theorem witness_SamplesComplete_alarm :
    (∀ x ∈ [700000, 1300000], ∀ s ∈ [EntryState.idle, .active, .held, .deferred], ∀ c ∈ [false, true],
      (rest .passengerAlarm).src = .passengerAlarm ∧ overNoStop (alarmed x s c) = (x == 1300000)
        ∧ (alarmed x s c).bdt.present .passengerAlarm = c
        ∧ { rest .passengerAlarm with state := s, cond := c } ∈ (alarmed x s c).bdt.entries) := by
  decide +kernel

/-- R101, R102: raised in a no-stop zone the alarm waits, and outside it acts. -/
theorem test_alarm_deferred :
    ((setCondition .passengerAlarm true (moving 1300000 5000)).bdt.entry? .passengerAlarm).map (·.state)
      = some .deferred
    ∧ ((setCondition .passengerAlarm true (moving 700000 5000)).bdt.entry? .passengerAlarm).map
        (·.state) = some .active := by decide +kernel

theorem witness_VoteKeepsCounterBelowMax :
    car.calMin < car.calMax ∧ 11 < car.calMax ∧ car.circMin ≤ 27000 ∧ 27000 ≤ car.circMax := by decide

theorem witness_CurveSpeed :
    7500 ≤ reactionDistance 5000 1500 ∧ reactionDistance 5000 1500 < 7501 := by decide

/-- The approach in DEGRADED, bogie B ENTERING, over the restriction. -/
def degradedApproach : Device :=
  { moving 810000 2000 with
    mdc := { inService.mdc with mode := .degraded }
    odu := { (moving 810000 2000).odu with bogies := ⟨meshStart .meshed, meshStart .entering⟩ } }

theorem witness_CeilingIsLeast :
    (carSpan degradedApproach).isSome = true ∧ travelDir degradedApproach = some .down
      ∧ degradedApproach.mdc.mode = .degraded ∧ anyEntering degradedApproach = true
      ∧ carSpan degradedApproach = some (793850, 810150)
      ∧ (∃ x ∈ degradedApproach.prs.cur.extents, (x.lo : Int) ≤ 810150 ∧ (793850 : Int) ≤ x.hi)
      ∧ (∃ r ∈ degradedApproach.aru.current, (r.start : Int) ≤ 810150 ∧ (793850 : Int) ≤ r.stop
          ∧ r.applies = .both) := by decide +kernel

/-- Nine slow points and an MA end beyond them. -/
def manyTargets : List Target :=
  (List.range 9).map (fun i => ⟨some (0 : Int), 100 * i, 1000, .segment⟩)
    ++ [⟨some 0, 900, 0, .maEnd⟩]

theorem witness_TargetListLaw :
    (targetList 5600 manyTargets).length = 8
      ∧ (∃ t ∈ manyTargets, t.kind = .maEnd ∧ t.speed < 5600)
      ∧ (∃ t ∈ manyTargets, t.speed < 5600
          ∧ ¬ ∃ u ∈ targetList 5600 manyTargets, u.distance = t.distance) := by decide +kernel

theorem witness_PermittedSpeedAndStatus :
    (resultOf car 5000 5600 (fun _ => 250) [⟨some 802000, 19850, 2000, .restriction⟩]).most = some 0
      ∧ (resultOf car 5000 5600 (fun _ => 250) [⟨some 802000, 29850, 2000, .restriction⟩]).most = none := by
  decide +kernel

/-- The rig with a snapshot of GET_DEMANDS. -/
def withSnapshot : Device :=
  { rig with clp := { rig.clp with snapshot := some (.demands (demandsView rig)) } }

theorem witness_QueriesComplete :
    Taken q (at0 rig) ∧ Taken q (at0 withSnapshot)
      ∧ (validFrame withSnapshot).clp.snapshot = some (.demands (demandsView rig))
      ∧ Contents.kind (.demands (demandsView rig)) = .demands ∧ 1#8 ≠ 0#8
      ∧ (validFrame rig).clp.snapshot = none := by
  unfold Taken
  decide +kernel

/-- The rig with the entry of a source changed. -/
def withMesh (state : EntryState) (cond : Bool) (mode : LatchMode) : Device :=
  { rig with bdt := { rig.bdt with
      entries := withEntry { rest .mesh with state := state, cond := cond, mode := mode }
        rig.bdt.entries } }

theorem witness_DemandCommandsComplete :
    rig.bau.watch ≠ .cutoff ∧ Taken q (at0 rig) ∧ (validFrame rig).mdc.mode = .preparation
      ∧ sourceOfNat 21 = some .supplyLow ∧ Source.supplyLow.carriesLevel = false
      ∧ Source.supplyLow.floor.rank ≤ Level.notify.rank ∧ Source.supplyLow.allows .flow = true
      ∧ (validFrame rig).mdc.config = some car ∧ (1 ≤ 1 ∧ 1 ≤ car.aSb) ∧ 3200 ≤ car.aSb
      ∧ car.aSb < 3201 ∧ 21 < 22
      ∧ Taken q (at0 noConfig) ∧ (validFrame noConfig).mdc.config = none := by
  unfold Taken
  decide +kernel

theorem witness_DemandCommandsComplete_ack :
    sourceOfNat 3 = some .mesh
      ∧ (∀ d ∈ [withMesh .active true .latch, withMesh .deferred false .latch,
          withMesh .idle false .latch, withMesh .held false .flow,
          withMesh .held false .latchStandstill, withMesh .held false .latch],
        ((validFrame d).bdt.entry? .mesh).isSome = true ∧ d.bau.watch ≠ .cutoff)
      ∧ (validFrame (withMesh .held false .latchStandstill)).odu.standstill = true
      ∧ (validFrame { withMesh .held false .latchStandstill with odu := rolling.odu }).odu.standstill
          = false := by decide +kernel

theorem witness_PlungerStopsTheCar :
    inService.bau.watch ≠ .cutoff ∧ inService.bdt.ordered ∧ inService.bdt.present .plunger = false
      ∧ (∀ e ∈ inService.bdt.entries, e.src = .plunger →
          e.cfgLevel = .emergency ∧ e.state ≠ .deferred) := by
  unfold Bdt.ordered
  decide +kernel

theorem witness_HandleDemand :
    (∀ d ∈ [inService, noConfig, after (.speedSample 500 false) inService],
      ∀ e ∈ d.bdt.entries, e.src = .driverHandle → e.mode = .flow ∧
        ((e.state = .idle ∧ e.cond = false) ∨ (e.state = .active ∧ e.cond = true)))
      ∧ (∀ h ∈ [49, 50, 949, 950],
          ∃ e ∈ (sampleHandle h false inService).bdt.entries, e.src = .driverHandle)
      ∧ inService.mdc.config = some car ∧ noConfig.mdc.config = none := by decide +kernel

/-- The rig with channel A's feedback timer running. -/
def timed : Device :=
  { rig with bau := { rig.bau with channels :=
      ⟨{ rig.bau.channels.a with timer := some ⟨0, 1500000⟩ },
       { rig.bau.channels.b with timer := none }⟩ } }

theorem witness_BrakeCommandsComplete :
    timed.bau.watch ≠ .cutoff ∧ (timed.bau.channels.ofChannel .a).timer ≠ none
      ∧ (timed.bau.channels.ofChannel .b).timer = none
      ∧ testing.bau.watch ≠ .cutoff ∧ (∃ r, testing.bau.run = some r ∧ r.timer ≠ none)
      ∧ (∀ r, rig.bau.run = some r → r.timer = none)
      ∧ Taken q (at0 rig) ∧ firstFailure (testChecks none (validFrame rig)) = none
      ∧ firstFailure (testChecks (some (2, 1)) (validFrame rig)) = some .range
      ∧ Taken q (at0 testing) ∧ (validFrame testing).bau.run.isSome = true
      ∧ (validFrame rig).bau.run = none ∧ rig.odu.standstill = true := by
  refine ⟨by decide, by decide, by decide, by decide +kernel, ⟨_, rfl, by decide +kernel⟩, nofun, ?_⟩
  unfold Taken
  decide +kernel

/-- The rig with door 1 REVERSING, its attempt count given, or ISOLATED. -/
def reversing (attempts : Nat) : Device :=
  { inService with
    dcu := { inService.dcu with
      doors := inService.dcu.doors.set .d1 ⟨.reversing, .reopen, attempts, some ⟨0, 2000000⟩, none⟩ } }
def oneIsolated : Device :=
  { rig with dcu := { rig.dcu with doors := rig.dcu.doors.set .d1 isolatedDoor } }

theorem witness_DoorCommandsComplete :
    Taken q (at0 inService)
      ∧ firstFailure (releaseChecks (some .left) (validFrame inService)) = none
      ∧ firstFailure (releaseChecks (some .right) (validFrame inService)) = some .platform
      ∧ (validFrame inService).mdc.config ≠ none ∧ doorOfNat 1 = some .d1 ∧ doorOfNat 4 = some .d4
      ∧ (validFrame inService).odu.standstill = true
      ∧ Taken q (at0 oneIsolated) ∧ ((validFrame oneIsolated).dcu.doors.get .d1).state = .isolated
      ∧ (validFrame oneIsolated).odu.standstill = true ∧ 4 < 5 := by
  unfold Taken
  decide +kernel

theorem witness_DoorCommandsComplete_dwell :
    (∀ n ∈ [1, 2, 5], (reversing n).bau.watch ≠ .cutoff ∧ (reversing n).mdc.config = some car
        ∧ ((reversing n).dcu.doors.get .d1).dwell ≠ none
        ∧ ((reversing n).dcu.doors.get .d1).attempts = n)
      ∧ car.doorAttempts ≤ min 5 (2 + 1) ∧ car.doorAttempts ≤ min 5 (5 + 1)
      ∧ min 5 (1 + 1) < car.doorAttempts
      ∧ (rig.dcu.doors.get .d1).dwell = none := by decide +kernel

/-- An attempt count of 5 stays 5 (R124, log 35). -/
theorem test_attempts_stay_at_5 :
    ((after (.reopenDwellExpiry .d1) (reversing 5)).dcu.doors.get .d1).attempts = 5 := by decide +kernel

/-- The rig with the door bus at a stage given. -/
def atStage (x : Stage) : Device :=
  { rig with dbm := { rig.dbm with trans := some ⟨.d1, x, 0, 0, false⟩ } }

theorem witness_DoorBusCompletes :
    (atStage (.polling [])).bau.watch ≠ .cutoff
      ∧ (atStage (.polling [])).dbm.trans = some ⟨.d1, .polling [], 0, 0, false⟩
      ∧ rig.bau.watch ≠ .cutoff ∧ rig.dbm.trans = some ⟨.d1, .window 0, 0, 0, false⟩
      ∧ (AnswerBytes.mk 1#8 1#8 1#8 0#8).address = unitByte .d1
      ∧ (reportOf ⟨1#8, 1#8, 1#8, 0#8⟩).isSome = true
      ∧ (AnswerBytes.mk 2#8 1#8 1#8 0#8).address ≠ unitByte .d1
      ∧ reportOf ⟨1#8, 1#8, 3#8, 0#8⟩ = none
      ∧ judgeAnswer .d1 [1#8, 1#8, 1#8, 1#8, 0#8, 0#8] = .bad
      ∧ (atStage (.repeatDue 5)).dbm.trans = some ⟨.d1, .repeatDue 5, 0, 0, false⟩
      ∧ (∀ t o, (atStage (.repeatDue 5)).dbm.trans = some t → t.stage ≠ .window o) := by
  refine ⟨by decide, by decide, by decide, by decide, by decide, by decide, by decide, by decide,
    by decide +kernel, by decide, ?_⟩
  intro t o h
  cases h
  exact nofun

/-- The rig with door 1 in a state and under an order, its dwell running or not. -/
def doorAt (state : DoorState) (order : Order) (dwell : Option Timer) : Device :=
  { rig with dcu := { rig.dcu with doors := rig.dcu.doors.set .d1 ⟨state, order, 2, dwell, none⟩ } }

/-- The transaction of unit 1 with its window open. -/
def unit1 : Trans := ⟨.d1, .window 0, 0, 0, false⟩

/-- The reports of a shut, an obstructed and a faulty door. -/
def shut : Report := ⟨.closed, true, false, false, false, 0#8⟩
def obstructed : Report := ⟨.closing, false, true, false, false, 0#8⟩
def faulty : Report := ⟨.open, true, false, false, true, 0#8⟩

theorem witness_DoorBusCompletes_report :
    unit1.abandoned = false
      ∧ (∀ d ∈ [doorAt .fault .close none, doorAt .obstructed .reopen none,
          doorAt .reversing .reopen (some ⟨0, 2000000⟩), doorAt .closing .close none,
          doorAt .locked .lock none, doorAt .released .release none],
        d.bdt.ordered ∧ (d.dcu.doors.get .d1).state ≠ .isolated ∧ d.mdc.config = some car)
      ∧ faulty.locked = true ∧ faulty.leaf ≠ .closed ∧ obstructed.obstruction = true
      ∧ shut.leaf = .closed ∧ shut.locked = true ∧ shut.faultCode = 0#8 := by
  unfold Bdt.ordered
  decide +kernel

/-- R128: an obstruction under CLOSE reverses the door, with the dwell of 2 s running. -/
theorem test_report_obstruction :
    (reportTrans unit1 obstructed (doorAt .closing .close none)).dcu.doors.d1
      = ⟨.reversing, .reopen, 2, some ⟨0, 2000000⟩, some obstructed⟩ := by decide +kernel

/-- The rig with the outbox, timers and link of the radio as a test needs them. -/
def report (count : Nat) : OutEntry :=
  ⟨3#8, .eventReport, [], true, count, some 0, false, some ⟨0, 3000000⟩⟩
def radio (link : LinkState) (count : Nat) : Device :=
  { rig with vru := { rig.vru with
      link := link, logonTimer := some ⟨0, 5000000⟩, reportTimer := some ⟨0, 5000000⟩
      outbox := [report count], tx := some ⟨[], some 3#8⟩ } }

theorem witness_RadioEventsComplete :
    (radio .online 2).bau.watch ≠ .cutoff ∧ (radio .loggingOn 2).vru.logonTimer ≠ none
      ∧ (radio .online 2).vru.link = .online ∧ (radio .online 2).vru.silence ≠ none
      ∧ (radio .online 2).vru.reportTimer ≠ none
      ∧ (∀ n ∈ [2, 3], (radio .online n).vru.outbox.find? (fun x => x.seq == 3#8) = some (report n))
      ∧ (report 2).timeout ≠ none ∧ (radio .online 2).vru.tx = some ⟨[], some 3#8⟩
      ∧ { rig with vru := { rig.vru with tx := some ⟨[], none⟩ } }.vru.tx = some ⟨[], none⟩
      ∧ addressed rig (down []) = true ∧ addressed (radio .lost 2) (down [1#8]) = true
      ∧ downKindOf 0x0B#8 = .unknown ∧ downKindOf 0x00#8 = .unknown
      ∧ (radio .loggingOn 2).vru.link = .loggingOn ∧ (radio .lost 2).vru.link = .lost
      ∧ (down [0#8, 0#8, 1#8]).payload.length = 3
      ∧ addressed rig ⟨8#8, 1#8, []⟩ = false ∧ addressed noConfig (down []) = false := by
  decide +kernel

/-- The rig with a number in the duplicate window. -/
def answered : Device := { rig with vru := { rig.vru with dupWindow := [(1#8, .applied)] } }

theorem witness_DuplicateIsNotHandedOver :
    (DownKind.stopOrder, Instr.stopOrder (down [])) ∈ [(DownKind.stopOrder, Instr.stopOrder (down []))]
      ∧ answered.bau.watch ≠ .cutoff ∧ addressed answered (down []) = true
      ∧ letThrough answered.vru.link .stopOrder = true
      ∧ DownKind.stopOrder.length = some (down []).payload.length
      ∧ answered.vru.dupWindow.find? (fun w => w.1 == (down []).seq) = some (1#8, .applied)
      ∧ DownKind.stopOrder.length ≠ some (down [0#8]).payload.length := by decide

/-- The moving car with an expiry timer. -/
def expiring : Device :=
  { moving 838000 5000 with aru := { (moving 838000 5000).aru with timer := some ⟨0, 60000000⟩ } }

theorem witness_AuthorityTelegramsComplete :
    rig.bau.watch ≠ .cutoff ∧ addressed rig (down [0#8, 0#8, 0#8]) = true
      ∧ letThrough rig.vru.link .authorityShorten = true
      ∧ DownKind.authorityShorten.length = some (down [0#8, 0#8, 0#8]).payload.length
      ∧ rig.vru.dupWindow = [] ∧ expiring.bau.watch ≠ .cutoff ∧ expiring.aru.timer ≠ none
      ∧ rig.aru.timer = none ∧ expiring.aru.auth = some ⟨1, .down, 600000, none, false⟩
      ∧ rig.odu.standstill = true := by decide

/-- The payload of a GRANT DOWN to an end, with an expiry. -/
def grant (identity dir : Byte) (stop : Nat) (expiry : Nat) : List Byte :=
  [0#8, identity, dir] ++ [BitVec.ofNat 8 (stop / 65536)] ++ bytes16 (BitVec.ofNat 16 stop)
    ++ bytes16 (BitVec.ofNat 16 expiry)

theorem witness_AuthorityTelegramsComplete_grant :
    (∀ e ∈ [0, 10, 3600], field (grant 5#8 2#8 600000 e) 6 2 = e
        ∧ field (grant 5#8 2#8 600000 e) 0 2 = 5 ∧ field (grant 5#8 2#8 600000 e) 3 3 = 600000
        ∧ (e = 0 ∨ (10 ≤ e ∧ e ≤ 3600)))
      ∧ dirOfByte 2#8 = some .down ∧ dirOfByte 3#8 = none
      ∧ (∀ e ∈ [1, 9, 3601], field (grant 5#8 2#8 600000 e) 6 2 = e
        ∧ ¬ (e = 0 ∨ (10 ≤ e ∧ e ≤ 3600)))
      ∧ field (grant 0#8 2#8 600000 0) 0 2 = 0 ∧ rig.aru.selDir ≠ some .down
      ∧ (moving 838000 5000).aru.selDir = some .down ∧ frontIn (moving 838000 5000) .down = some 821850
      ∧ (821850 : Int) < 821851 := by decide +kernel

/-- The five results of a GRANT (R172). -/
theorem test_grant_results :
    [(grant 0#8 2#8 600000 0), (grant 5#8 1#8 600000 0), (grant 5#8 2#8 821851 0),
        (grant 5#8 2#8 821850 10)].map (fun p => (takeGrant p (moving 838000 5000)).2)
      = [.invalid, .wrongDirection, .behindCar, .applied]
    ∧ (takeGrant (grant 5#8 2#8 600000 0) { moving 838000 5000 with odu :=
        { (moving 838000 5000).odu with known := false } }).2 = .noPosition := by decide +kernel

theorem witness_ValleyNeverRelaxesAtOnce :
    ∃ r ∈ (moving 838000 5000).aru.current, r.start ≤ 802000 ∧ 802000 ≤ r.stop ∧ r.limit ≤ 2000
      ∧ r.appliesTo .up = true := by decide

/-- The rig with a direction and a restriction of the host. -/
def directed : Device :=
  { rig with
    aru := { rig.aru with selDir := some .down, current := [⟨32768, 0, 0, 15000, .up, false⟩] } }

/-- The same with no room in the outbox. -/
def crowded : Device :=
  { directed with vru := { directed.vru with
      outbox := (List.range 16).map (fun i => { report 1 with seq := BitVec.ofNat 8 i }) } }

theorem witness_AuthorityRequestsComplete :
    Taken q (at0 directed) ∧ (validFrame directed).odu.standstill = true
      ∧ (validFrame directed).aru.auth = none ∧ (validFrame directed).aru.selDir ≠ none
      ∧ roomFor (validFrame directed) = true ∧ Taken q (at0 crowded)
      ∧ roomFor (validFrame crowded) = false ∧ (validFrame crowded).aru.selDir ≠ none
      ∧ (validFrame rig).aru.selDir = none
      ∧ (32768 ≤ 65535 ∧ 0 ≤ 0 ∧ 1 ≤ 15000) ∧ (validFrame directed).aru.current.length < 16
      ∧ (restrictionFor (validFrame directed).aru.current 32768).isSome = true
      ∧ (1 ≤ 32767 ∧ 32767 ≤ 32767) := by
  unfold Taken
  decide +kernel

/-- The rig with its reply list full. -/
def full : Device :=
  { rig with clp := { rig.clp with replies := List.replicate 8 ⟨0#8, none, .nothing, false⟩ } }

/-- A GET_STATUS frame with tag 5; its CRC was worked outside the model. -/
def statusFrame : List Byte := [0xA5#8, 0x00#8, 0x3F#8, 0x05#8, 0x89#8, 0x92#8]

theorem witness_LinkCommandsComplete :
    rig.bau.watch ≠ .cutoff ∧ Taken q (at0 rig) ∧ Taken ⟨7#8, true⟩ (at0 rig)
      ∧ full.bau.watch ≠ .cutoff ∧ replyRoom ≤ full.clp.replies.length
      ∧ validFrames [0xA5#8] rig = [] ∧ ([] : List Byte).length ≤ 60
      ∧ inAssembly rig.clp.rx ++ statusFrame = carFrameBytes 0x3F#8 0x05#8 []
      ∧ inAssembly (after (.frameDiscarded [0xA5#8, 0x00#8]) rig).clp.rx
          ++ [0x3F#8, 0x05#8, 0x89#8, 0x92#8] = carFrameBytes 0x3F#8 0x05#8 []
      ∧ (sendingRestart rig).clp.silence ≠ none ∧ rig.clp.silence = none
      ∧ replyOnLine rig = false ∧ (sendingRestart rig).bau.watch ≠ .cutoff
      ∧ (sendingRestart rig).clp.tx = some (.reply ⟨0#8, none, .nothing, true⟩) := by
  unfold Taken
  decide +kernel

/-- A frame whose bytes come in two parts is answered once it is whole (R183, R185). -/
theorem test_frame_in_two_parts :
    (after (.frameDiscarded [0x3F#8, 0x05#8, 0x89#8, 0x92#8])
      (after (.frameDiscarded [0xA5#8, 0x00#8]) rig)).clp.tx
      = some (.reply ⟨0x05#8, none, .status (statusView rig), false⟩) := by decide +kernel

/-- The whole bytes of a reply BAD_LENGTH with tag 5; its CRC was worked outside the model. -/
theorem test_reply_bytes :
    (Frame.reply ⟨0x05#8, some .badLength, .nothing, false⟩).bytes
      = [0xA5#8, 0x01#8, 0x80#8, 0x05#8, 0x02#8, 0x16#8, 0x99#8] := by decide +kernel

/-- R185: an absent slot index is FFh. -/
theorem test_check_bytes : (ReplyData.check 2 none).bytes = [0x02#8, 0xFF#8]
    ∧ (ReplyData.check 5 (some 3)).bytes = [0x05#8, 0x03#8] := by decide +kernel

/-- LOAD_LINE carries seven bytes: a length of three and a version of four. -/
theorem test_length_of_load_line : requestFits 0x10 (List.replicate 7 0#8) = true
    ∧ requestFits 0x10 (List.replicate 6 0#8) = false := by decide +kernel

/-- The reason codes in the order of the table of R185. -/
theorem test_reason_codes :
    [Reason.unknownKind, .badLength, .range, .wrongMode, .notStandstill, .busy, .notConfigured,
      .noProfile, .checkFailed, .conditionPresent, .notHeld, .notAllowed, .full, .notFound,
      .platform, .brakesNotApplied, .orientationUnset, .testNotPassed, .positionUnknown].map
        (fun r => r.code.toNat) = (List.range 19).map (· + 1) := by decide +kernel

theorem witness_BlockFrames :
    (∃ t, exec (.clearLoad q) (at0 rig) = .next t) ∧ Instr.clearLoad q ≠ .warmRestart
      ∧ Instr.clearLoad q ≠ .frameSent ∧ (∀ p x, Instr.clearLoad q ≠ .selectDirection p x)
      ∧ (∀ p n l m, Instr.clearLoad q ≠ .setReaction p n l m)
      ∧ (∀ p u, Instr.clearLoad q ≠ .clearDoorFlags p u)
      ∧ (∀ b, Instr.clearLoad q = .frameDiscarded b → validFrames b rig = [])
      ∧ (Instr.clearLoad q).changesDoors = false ∧ (Instr.clearLoad q).changesSupervision = false
      ∧ (∀ p h, Instr.clearLoad q ≠ .startBrakeTest p h) ∧ rig.bau.run = none
      ∧ (Instr.clearLoad q).changesLink = false ∧ (Instr.clearLoad q).isAcknowledged = false
      ∧ (Instr.clearLoad q).isLongQuery = false :=
  ⟨⟨_, rfl⟩, nofun, nofun, nofun, nofun, nofun, nofun, rfl, rfl, nofun, by decide, rfl, rfl, rfl⟩

end Sys2Proof.Tests
end

section
/-! The rules of the shared operations, beyond their frames: what an operation of the table does to the two
ports and to a brake test, and which entries it leaves alone. -/

namespace Sys2Proof.Machine

/-! ### The relations -/

/-- What the radio and the link port hold, but for what waits to be sent by radio. -/
def Device.ports (d : Device) :=
  (d.clp, d.vru.link, d.vru.dupWindow, d.vru.ackList, d.vru.silence, d.vru.reportTimer)

/-- The supply watch. -/
def Bau.supply (b : Bau) := (b.watch, b.reading, b.firstSample)

/-- Of the radio and the link port, only what waits to be sent may differ: the outbox, its numbers and its
sending, and notices at the end of the queue. -/
structure KeepsPorts (d e : Device) : Prop where
  link : e.vru.link = d.vru.link
  dupWindow : e.vru.dupWindow = d.vru.dupWindow
  ackList : e.vru.ackList = d.vru.ackList
  silence : e.vru.silence = d.vru.silence
  reportTimer : e.vru.reportTimer = d.vru.reportTimer
  port : ∃ l b, e.clp = { d.clp with notices := d.clp.notices ++ l, lost := b }

/-- The supply watch stays, no test begins, and a finished one keeps its record (R113). -/
structure KeepsTrial (d e : Device) : Prop where
  supply : e.bau.supply = d.bau.supply
  idle : d.bau.run = none → e.bau.run = none ∧ e.bau.test = d.bau.test
  running : (d.bau.run ≠ none → d.bau.test.result = .running) →
    e.bau.run ≠ none → e.bau.test.result = .running

/-- Notices and reports are queued, and nothing else: the table and the outputs stay. -/
structure Queues (d e : Device) : Prop where
  bdt : e.bdt = d.bdt
  bau : e.bau = d.bau
  ports : KeepsPorts d e

/-- What an operation of the table may do outside the table and the outputs. -/
structure Works (d e : Device) : Prop where
  ports : KeepsPorts d e
  trial : KeepsTrial d e

theorem KeepsPorts.of_eq {d e : Device} (h : e.ports = d.ports) : KeepsPorts d e := by
  simp only [Device.ports, Prod.mk.injEq] at h
  obtain ⟨clp, link, dupWindow, ackList, silence, reportTimer⟩ := h
  exact ⟨link, dupWindow, ackList, silence, reportTimer, [], d.clp.lost, by simp [clp]⟩

theorem KeepsPorts.refl (d : Device) : KeepsPorts d d := .of_eq rfl

theorem KeepsPorts.trans {d e f : Device} (h : KeepsPorts d e) (k : KeepsPorts e f) :
    KeepsPorts d f := by
  obtain ⟨l, b, hp⟩ := h.port
  obtain ⟨m, c, kp⟩ := k.port
  exact ⟨k.link.trans h.link, k.dupWindow.trans h.dupWindow, k.ackList.trans h.ackList,
    k.silence.trans h.silence, k.reportTimer.trans h.reportTimer, l ++ m, c, by simp [kp, hp]⟩

theorem KeepsPorts.replies {d e : Device} (h : KeepsPorts d e) : e.clp.replies = d.clp.replies := by
  obtain ⟨l, b, hp⟩ := h.port
  rw [hp]

theorem KeepsTrial.watch {d e : Device} (h : KeepsTrial d e) : e.bau.watch = d.bau.watch :=
  congrArg (·.1) h.supply

theorem KeepsTrial.reading {d e : Device} (h : KeepsTrial d e) : e.bau.reading = d.bau.reading :=
  congrArg (·.2.1) h.supply

theorem KeepsTrial.firstSample {d e : Device} (h : KeepsTrial d e) :
    e.bau.firstSample = d.bau.firstSample := congrArg (·.2.2) h.supply

/-- A test that goes on as it was. -/
theorem KeepsTrial.of_run {d e : Device} (supply : e.bau.supply = d.bau.supply)
    (run : e.bau.run = d.bau.run) (test : e.bau.test = d.bau.test) : KeepsTrial d e :=
  ⟨supply, fun h => ⟨run.trans h, test⟩, fun h k => by
    rw [test]
    exact h (by rwa [run] at k)⟩

/-- A test that has ended. -/
theorem KeepsTrial.of_end {d e : Device} (before : d.bau.run ≠ none) (after : e.bau.run = none)
    (supply : e.bau.supply = d.bau.supply) : KeepsTrial d e :=
  ⟨supply, fun h => absurd h before, fun _ k => absurd after k⟩

/-- A running test whose record stays RUNNING. -/
theorem KeepsTrial.of_phase {d e : Device} (before : d.bau.run ≠ none)
    (supply : e.bau.supply = d.bau.supply) (result : e.bau.test.result = d.bau.test.result) :
    KeepsTrial d e :=
  ⟨supply, fun h => absurd h before, fun h _ => result.trans (h before)⟩

theorem KeepsTrial.refl (d : Device) : KeepsTrial d d := .of_run rfl rfl rfl

theorem KeepsTrial.of_bau {d e : Device} (h : e.bau = d.bau) : KeepsTrial d e :=
  .of_run (by rw [h]) (by rw [h]) (by rw [h])

theorem KeepsTrial.trans {d e f : Device} (h : KeepsTrial d e) (k : KeepsTrial e f) :
    KeepsTrial d f :=
  ⟨k.supply.trans h.supply,
   fun hd => ⟨(k.idle (h.idle hd).1).1, (k.idle (h.idle hd).1).2.trans (h.idle hd).2⟩,
   fun hd => k.running (h.running hd)⟩

theorem Queues.refl (d : Device) : Queues d d := ⟨rfl, rfl, .refl d⟩

theorem Queues.trans {d e f : Device} (h : Queues d e) (k : Queues e f) : Queues d f :=
  ⟨k.bdt.trans h.bdt, k.bau.trans h.bau, h.ports.trans k.ports⟩

theorem Queues.trial {d e : Device} (h : Queues d e) : KeepsTrial d e := .of_bau h.bau

theorem Queues.works {d e : Device} (h : Queues d e) : Works d e := ⟨h.ports, h.trial⟩

theorem Works.refl (d : Device) : Works d d := ⟨.refl d, .refl d⟩

theorem Works.trans {d e f : Device} (h : Works d e) (k : Works e f) : Works d f :=
  ⟨h.ports.trans k.ports, h.trial.trans k.trial⟩

/-! ### What is queued -/

theorem notify_queues (n : Notice) (d : Device) : Queues d (notify n d) := by
  unfold notify
  split
  · exact ⟨rfl, rfl, ⟨rfl, rfl, rfl, rfl, rfl, [n], d.clp.lost, rfl⟩⟩
  · exact ⟨rfl, rfl, ⟨rfl, rfl, rfl, rfl, rfl, [], true, by simp⟩⟩

theorem dropQueuedReport_queues (d : Device) : Queues d (dropQueuedReport d) := by
  unfold dropQueuedReport
  split
  · exact ⟨rfl, rfl, .of_eq rfl⟩
  · exact .refl d

theorem appendEntry_queues (k : UplinkKind) (p : List Byte) (d : Device) :
    Queues d (appendEntry k p d) := ⟨rfl, rfl, .of_eq rfl⟩

theorem queueEntry_queues (k : UplinkKind) (p : List Byte) (d : Device) :
    Queues d (queueEntry k p d).1 := by
  unfold queueEntry
  split
  · dsimp only
    split
    · exact appendEntry_queues k p d
    · exact (dropQueuedReport_queues d).trans (appendEntry_queues k p _)
  · exact notify_queues _ d

theorem callPosition_queues (d : Device) : Queues d (callPosition d) := by
  unfold callPosition
  split
  · exact ⟨rfl, rfl, .of_eq rfl⟩
  · split
    · exact appendEntry_queues _ _ d
    · exact notify_queues _ d

theorem callEvent_queues (e : Entry) (d : Device) : Queues d (callEvent e d) :=
  queueEntry_queues _ _ d

theorem foldl_queues {α : Type} (f : Device → α → Device) (h : ∀ x a, Queues x (f x a))
    (l : List α) (d : Device) : Queues d (l.foldl f d) := by
  induction l generalizing d with
  | nil => exact .refl d
  | cons a l ih => exact (h d a).trans (ih _)

theorem tableNotices_queues (old : Bdt) (d : Device) : Queues d (tableNotices old d) := by
  unfold tableNotices
  have h := foldl_queues (fun x e => notify (demandNotice e) x) (fun x e => notify_queues _ x)
    (changedEntries old.entries d.bdt.entries) d
  dsimp only
  split
  · exact h
  · exact h.trans (notify_queues _ _)

theorem tableReports_queues (old : Bdt) (d : Device) : Queues d (tableReports old d) := by
  unfold tableReports
  have h := fun x => foldl_queues (fun x e => callEvent e x) (fun x e => callEvent_queues e x)
    ((changedEntries old.entries d.bdt.entries).filter (fun e => !e.src.carriesLevel)) x
  dsimp only
  split
  · exact (callPosition_queues d).trans (h _)
  · exact h d

/-! ### The table at work -/

theorem blendAfter_works (old : Bdt) (d : Device) : Works d (blendAfter old d) := by
  unfold blendAfter
  split
  · exact ⟨.of_eq rfl, .of_run rfl rfl rfl⟩
  · split
    · exact ⟨.of_eq rfl, .of_run rfl rfl rfl⟩
    · exact .refl d

theorem setOutputs_works (d : Device) : Works d (setOutputs d) := ⟨.of_eq rfl, .of_run rfl rfl rfl⟩

theorem tableEvent_works (f : List Entry → List Entry) (d : Device) : Works d (tableEvent f d) := by
  have table : Works d { d with bdt := bdtAfter f d } := ⟨.of_eq rfl, .of_run rfl rfl rfl⟩
  exact (((table.trans (tableNotices_queues _ _).works).trans (tableReports_queues _ _).works).trans
    (blendAfter_works _ _)).trans (setOutputs_works _)

theorem tableEvent_run (f : List Entry → List Entry) (d : Device) :
    (tableEvent f d).bau.run = d.bau.run := by
  have blend : ∀ (old : Bdt) (x : Device), (blendAfter old x).bau.run = x.bau.run := by
    intro old x
    unfold blendAfter
    split
    · rfl
    · split <;> rfl
  change (blendAfter _ _).bau.run = _
  rw [blend, (tableReports_queues _ _).bau, (tableNotices_queues _ _).bau]

theorem rollawayAfterTest_works (d : Device) : Works d (rollawayAfterTest d) := by
  unfold rollawayAfterTest
  split
  · exact tableEvent_works _ d
  · exact .refl d

theorem reportTestFailure_works (c : EndCause) (d : Device) : Works d (reportTestFailure c d) := by
  unfold reportTestFailure
  have h := (tableEvent_works (onEntry .brakeTest (raiseEntry (raiseOf .none none d))) d).trans
    (tableEvent_works (onEntry .brakeTest clearEntry) _)
  dsimp only
  split
  · exact h.trans (tableEvent_works _ _)
  · exact h

/-- The end of a running test. -/
theorem endTest_works (r : TestResult) (c : EndCause) (d : Device) (h : d.bau.run ≠ none) :
    Works d (endTest r c d) := by
  have written : Works d (writeTestEnd r c (movementAfter d.bau.test d.bau.run) (endPhase d)) :=
    ⟨.of_eq rfl, .of_end h rfl rfl⟩
  unfold endTest
  dsimp only
  split
  · exact ((written.trans (reportTestFailure_works c _)).trans (rollawayAfterTest_works _)).trans
      (notify_queues _ _).works
  · exact (written.trans (rollawayAfterTest_works _)).trans (notify_queues _ _).works

theorem abortIfEmergency_works (d : Device) : Works d (abortIfEmergency d) := by
  unfold abortIfEmergency
  split
  · rename_i h
    exact endTest_works _ _ d (by simpa [Option.isSome_iff_ne_none] using h.1)
  · exact .refl d

/-- With no test running an event of the table ends none. -/
theorem bdtEvent_of_idle (f : List Entry → List Entry) (d : Device) (h : d.bau.run = none) :
    bdtEvent f d = tableEvent f d := by
  unfold bdtEvent abortIfEmergency
  rw [tableEvent_run, h]
  rfl

theorem bdtEvent_works (f : List Entry → List Entry) (d : Device) : Works d (bdtEvent f d) :=
  (tableEvent_works f d).trans (abortIfEmergency_works _)

theorem raiseWith_works (src : Source) (l : Level) (x : Option Nat) (d : Device) :
    Works d (raiseWith src l x d) := by
  unfold raiseWith
  split <;> exact bdtEvent_works _ d

theorem setCondition_works (src : Source) (b : Bool) (d : Device) :
    Works d (setCondition src b d) := by
  unfold setCondition
  split
  · exact raiseWith_works _ _ _ d
  · split
    · exact bdtEvent_works _ d
    · exact .refl d

/-! ### The entries of one source -/

/-- The entries of a source. -/
def Bdt.entriesOf (t : Bdt) (src : Source) : List Entry := t.entries.filter (fun e => e.src = src)

theorem Bdt.mem_entriesOf {t : Bdt} {src : Source} {e : Entry} :
    e ∈ t.entriesOf src ↔ e ∈ t.entries ∧ e.src = src := by simp [Bdt.entriesOf]

/-- Whether a source's condition is present is said by its own entries. -/
theorem Bdt.present_eq (t : Bdt) (src : Source) :
    t.present src = (t.entriesOf src).any (fun e => e.cond) := by
  simp [Bdt.present, Bdt.entriesOf, List.any_filter, beq_eq_decide]

/-- The entries of a source stay as they were. -/
def KeepsEntries (x : Source) (d e : Device) : Prop := e.bdt.entriesOf x = d.bdt.entriesOf x

theorem KeepsEntries.refl (x : Source) (d : Device) : KeepsEntries x d d := rfl

theorem KeepsEntries.trans {x : Source} {d e f : Device} (h : KeepsEntries x d e)
    (k : KeepsEntries x e f) : KeepsEntries x d f := Eq.trans k h

theorem KeepsEntries.of_bdt {x : Source} {d e : Device} (h : e.bdt = d.bdt) : KeepsEntries x d e := by
  rw [KeepsEntries, h]

theorem KeepsEntries.present {x : Source} {d e : Device} (h : KeepsEntries x d e) :
    e.bdt.present x = d.bdt.present x := by
  rw [Bdt.present_eq, Bdt.present_eq, h]

theorem tableEvent_entries (f : List Entry → List Entry) (d : Device) :
    (tableEvent f d).bdt.entries = f d.bdt.entries := by rw [tableEvent_bdt, bdtAfter_entries]

/-- An event on one source's entry leaves the others' alone. -/
theorem tableEvent_other (src x : Source) (f : Entry → Entry) (hf : ∀ e, (f e).src = e.src)
    (hx : x ≠ src) (d : Device) : KeepsEntries x d (tableEvent (onEntry src f) d) := by
  unfold KeepsEntries Bdt.entriesOf
  rw [tableEvent_entries]
  exact onEntry_other src x f hf hx _

/-- A source that the end of a test leaves alone (R56, R119). -/
def Source.apartFromTests (x : Source) : Prop := x ≠ .rollaway ∧ x ≠ .brakeTest ∧ x ≠ .brakeFault

theorem rollawayAfterTest_other {x : Source} (hx : x.apartFromTests) (d : Device) :
    KeepsEntries x d (rollawayAfterTest d) := by
  unfold rollawayAfterTest
  split
  · exact tableEvent_other _ x _ (raiseEntry_src _) hx.1 d
  · exact .refl x d

theorem reportTestFailure_other {x : Source} (hx : x.apartFromTests) (c : EndCause) (d : Device) :
    KeepsEntries x d (reportTestFailure c d) := by
  obtain ⟨-, hTest, hFault⟩ := hx
  unfold reportTestFailure
  have h := (tableEvent_other .brakeTest x _ (raiseEntry_src (raiseOf .none none d)) hTest d).trans
    (tableEvent_other .brakeTest x _ clearEntry_src hTest _)
  dsimp only
  split
  · exact h.trans (tableEvent_other _ x _ (raiseEntry_src _) hFault _)
  · exact h

theorem endTest_other {x : Source} (hx : x.apartFromTests) (r : TestResult) (c : EndCause)
    (d : Device) : KeepsEntries x d (endTest r c d) := by
  have written : KeepsEntries x d
      (writeTestEnd r c (movementAfter d.bau.test d.bau.run) (endPhase d)) := .of_bdt rfl
  unfold endTest
  dsimp only
  split
  · exact ((written.trans (reportTestFailure_other hx c _)).trans
      (rollawayAfterTest_other hx _)).trans (.of_bdt (notify_bdt _ _))
  · exact (written.trans (rollawayAfterTest_other hx _)).trans (.of_bdt (notify_bdt _ _))

theorem abortIfEmergency_other {x : Source} (hx : x.apartFromTests) (d : Device) :
    KeepsEntries x d (abortIfEmergency d) := by
  unfold abortIfEmergency
  split
  · exact endTest_other hx _ _ d
  · exact .refl x d

theorem bdtEvent_other {x src : Source} (hx : x.apartFromTests) (hs : x ≠ src) (f : Entry → Entry)
    (hf : ∀ e, (f e).src = e.src) (d : Device) : KeepsEntries x d (bdtEvent (onEntry src f) d) :=
  (tableEvent_other src x f hf hs d).trans (abortIfEmergency_other hx _)

theorem raiseWith_other {x src : Source} (hx : x.apartFromTests) (hs : x ≠ src) (l : Level)
    (y : Option Nat) (d : Device) : KeepsEntries x d (raiseWith src l y d) := by
  unfold raiseWith
  split
  · exact bdtEvent_other hx hs _ clearEntry_src d
  · exact bdtEvent_other hx hs _ (raiseEntry_src _) d

theorem setCondition_other {x src : Source} (hx : x.apartFromTests) (hs : x ≠ src) (b : Bool)
    (d : Device) : KeepsEntries x d (setCondition src b d) := by
  unfold setCondition
  split
  · exact raiseWith_other hx hs _ _ d
  · split
    · exact bdtEvent_other hx hs _ clearEntry_src d
    · exact .refl x d

theorem apart_position : Source.position.apartFromTests := by simp [Source.apartFromTests]
theorem apart_mode : Source.mode.apartFromTests := by simp [Source.apartFromTests]

end Sys2Proof.Machine
end

section
/-! The law of service (R3 to R7, R113) cut to what an operation has to keep of it, and the three ways an
operation keeps it: it leaves mode and causes alone, it changes a cause and reports it, it changes the mode
with the law restored. -/

namespace Sys2Proof.Machine

/-! ### The relations -/

/-- What CONFIGURE_CAR, SET_ORIENTATION and COMMIT_PROFILE write (R10, R11, R31). -/
def Device.givens (d : Device) := (d.mdc.config, d.mdc.orientation, d.prs.cur, d.prs.valid)

/-- What the law of service reads, but for the brake test and the supply watch. -/
def Device.standing (d : Device) :=
  (d.givens, d.mdc.mode, d.mdc.causePosition, d.mdc.causeRadio, d.mdc.wakeTimer, causesNow d)

/-- The supply watch and the brake test. -/
def Device.trial (d : Device) := (d.bau.supply, d.bau.run, d.bau.test)

/-- The configuration, the orientation and the current profile with its valid flag stay. -/
structure KeepsProfile (d e : Device) : Prop where
  config : e.mdc.config = d.mdc.config
  orientation : e.mdc.orientation = d.mdc.orientation
  cur : e.prs.cur = d.prs.cur
  valid : e.prs.valid = d.prs.valid

/-- The records and the brake test stay; mode and causes may differ. -/
structure KeepsRecords (d e : Device) : Prop where
  profile : KeepsProfile d e
  trial : KeepsTrial d e

/-- Mode, causes, records and the brake test stay; what the owners of the causes report may differ. -/
structure KeepsMode (d e : Device) : Prop where
  records : KeepsRecords d e
  mode : e.mdc.mode = d.mdc.mode
  causePosition : e.mdc.causePosition = d.mdc.causePosition
  causeRadio : e.mdc.causeRadio = d.mdc.causeRadio
  wakeTimer : e.mdc.wakeTimer = d.mdc.wakeTimer

/-- All that the law of service speaks of stays. -/
structure Quiet (d e : Device) : Prop where
  mode : KeepsMode d e
  causes : causesNow e = causesNow d

/-- What the law of service says of mode, records and test, and of the cause set as it stands. -/
structure ServiceBase (d : Device) : Prop where
  ready : d.mdc.mode ≠ .preparation →
    d.mdc.config ≠ none ∧ d.prs.valid = true ∧ d.bau.test.result = .passed
  testing : d.bau.run ≠ none → d.mdc.mode = .preparation ∧ d.bau.test.result = .running
  waking : d.mdc.wakeTimer ≠ none → d.mdc.mode = .waking
  service : d.mdc.mode = .service → (d.mdc.causePosition, d.mdc.causeRadio) = (false, false)
  degraded : d.mdc.mode = .degraded → (d.mdc.causePosition, d.mdc.causeRadio) ≠ (false, false)

/-- The law of service outside CUTOFF: with the cause set as its owners report it. -/
structure ServiceCore (d : Device) : Prop where
  base : ServiceBase d
  reported : (d.mdc.causePosition, d.mdc.causeRadio) = causesNow d

/-- The law of service is kept, and the watch. -/
structure KeepsLaw (d e : Device) : Prop where
  watch : e.bau.watch = d.bau.watch
  core : ServiceCore d → ServiceCore e

/-- Records and test stay, and the law of service is kept. -/
structure Settles (d e : Device) : Prop where
  records : KeepsRecords d e
  core : ServiceCore d → ServiceCore e

/-- Configuration, orientation and profile stay, and the law of service is kept. -/
structure Serves (d e : Device) : Prop where
  profile : KeepsProfile d e
  law : KeepsLaw d e

theorem serviceLaw_iff (d : Device) :
    ServiceLaw d ↔ (d.bau.watch ≠ .cutoff → ServiceCore d) := by
  constructor
  · intro h hw
    obtain ⟨ready, testing, waking, reported, service, degraded⟩ := h hw
    exact ⟨⟨ready, testing, waking, fun hm => reported.trans (service hm),
      fun hm => reported ▸ degraded hm⟩, reported⟩
  · intro h hw
    obtain ⟨⟨ready, testing, waking, service, degraded⟩, reported⟩ := h hw
    exact ⟨ready, testing, waking, reported, fun hm => reported.symm.trans (service hm),
      fun hm => reported ▸ degraded hm⟩

theorem KeepsProfile.of_eq {d e : Device} (h : e.givens = d.givens) : KeepsProfile d e := by
  simp only [Device.givens, Prod.mk.injEq] at h
  obtain ⟨config, orientation, cur, valid⟩ := h
  exact ⟨config, orientation, cur, valid⟩

theorem KeepsProfile.refl (d : Device) : KeepsProfile d d := .of_eq rfl

theorem KeepsProfile.trans {d e f : Device} (h : KeepsProfile d e) (k : KeepsProfile e f) :
    KeepsProfile d f :=
  ⟨k.config.trans h.config, k.orientation.trans h.orientation, k.cur.trans h.cur,
   k.valid.trans h.valid⟩

theorem KeepsBlocks.profile {d e : Device} (h : KeepsBlocks d e) : KeepsProfile d e :=
  ⟨by rw [h.mdc], by rw [h.mdc], by rw [h.prs], by rw [h.prs]⟩

theorem KeepsGiven.profile {d e : Device} (h : KeepsGiven d e) : KeepsProfile d e :=
  ⟨h.config, h.orientation, by rw [h.prs], by rw [h.prs]⟩

theorem KeepsRecords.trans {d e f : Device} (h : KeepsRecords d e) (k : KeepsRecords e f) :
    KeepsRecords d f := ⟨h.profile.trans k.profile, h.trial.trans k.trial⟩

theorem KeepsMode.refl (d : Device) : KeepsMode d d :=
  ⟨⟨.refl d, .refl d⟩, rfl, rfl, rfl, rfl⟩

theorem KeepsMode.trans {d e f : Device} (h : KeepsMode d e) (k : KeepsMode e f) : KeepsMode d f :=
  ⟨h.records.trans k.records, k.mode.trans h.mode, k.causePosition.trans h.causePosition,
   k.causeRadio.trans h.causeRadio, k.wakeTimer.trans h.wakeTimer⟩

/-- Mode and causes stand in the record of Mode Control. -/
theorem KeepsMode.of_mdc {d e : Device} (profile : KeepsProfile d e) (trial : KeepsTrial d e)
    (mdc : e.mdc = d.mdc) : KeepsMode d e :=
  ⟨⟨profile, trial⟩, by rw [mdc], by rw [mdc], by rw [mdc], by rw [mdc]⟩

theorem Quiet.refl (d : Device) : Quiet d d := ⟨.refl d, rfl⟩

theorem Quiet.trans {d e f : Device} (h : Quiet d e) (k : Quiet e f) : Quiet d f :=
  ⟨h.mode.trans k.mode, k.causes.trans h.causes⟩

/-- The cause set is read from the POSITION entry and the link state. -/
theorem causesNow_eq {d e : Device} (table : KeepsEntries .position d e)
    (link : e.vru.link = d.vru.link) : causesNow e = causesNow d := by
  rw [causesNow, causesNow, table.present, link]

/-- An update that goes on with a test or ends it, and touches nothing else that the law speaks of. -/
theorem Quiet.of_trial {d e : Device} (h : e.standing = d.standing) (trial : KeepsTrial d e) :
    Quiet d e := by
  simp only [Device.standing, Prod.mk.injEq] at h
  obtain ⟨givens, mode, causePosition, causeRadio, wakeTimer, causes⟩ := h
  exact ⟨⟨⟨.of_eq givens, trial⟩, mode, causePosition, causeRadio, wakeTimer⟩, causes⟩

/-- An update that does not touch what the law of service speaks of. -/
theorem Quiet.of_eq {d e : Device} (h : e.standing = d.standing) (k : e.trial = d.trial) :
    Quiet d e := by
  simp only [Device.trial, Prod.mk.injEq] at k
  obtain ⟨supply, run, test⟩ := k
  exact .of_trial h (.of_run supply run test)

/-- Work of the table that leaves the POSITION entry alone. -/
theorem KeepsBlocks.quiet {d e : Device} (blocks : KeepsBlocks d e) (work : Works d e)
    (table : KeepsEntries .position d e) : Quiet d e :=
  ⟨.of_mdc blocks.profile work.trial blocks.mdc, causesNow_eq table work.ports.link⟩

theorem KeepsMode.base {d e : Device} (h : KeepsMode d e) (b : ServiceBase d) : ServiceBase e := by
  obtain ⟨⟨⟨config, _, _, valid⟩, ⟨_, idle, running⟩⟩, mode, causePosition, causeRadio,
    wakeTimer⟩ := h
  refine ⟨fun hm => ?_, fun hr => ?_, ?_, ?_, ?_⟩
  · have hd : d.mdc.mode ≠ .preparation := by rwa [mode] at hm
    have hrun : d.bau.run = none := by
      by_contra hr
      exact hd (b.testing hr).1
    rw [config, valid, (idle hrun).2]
    exact b.ready hd
  · have hd : d.bau.run ≠ none := fun hn => hr (idle hn).1
    exact ⟨mode.trans (b.testing hd).1, running (fun h => (b.testing h).2) hr⟩
  · rw [mode, wakeTimer]
    exact b.waking
  · rw [mode, causePosition, causeRadio]
    exact b.service
  · rw [mode, causePosition, causeRadio]
    exact b.degraded

theorem Quiet.core {d e : Device} (h : Quiet d e) (c : ServiceCore d) : ServiceCore e :=
  ⟨h.mode.base c.base, by rw [h.mode.causePosition, h.mode.causeRadio, h.causes, c.reported]⟩

theorem Quiet.settles {d e : Device} (h : Quiet d e) : Settles d e := ⟨h.mode.records, h.core⟩

theorem Settles.refl (d : Device) : Settles d d := (Quiet.refl d).settles

theorem Settles.trans {d e f : Device} (h : Settles d e) (k : Settles e f) : Settles d f :=
  ⟨h.records.trans k.records, fun c => k.core (h.core c)⟩

theorem KeepsLaw.trans {d e f : Device} (h : KeepsLaw d e) (k : KeepsLaw e f) : KeepsLaw d f :=
  ⟨k.watch.trans h.watch, fun c => k.core (h.core c)⟩

theorem Settles.serves {d e : Device} (h : Settles d e) : Serves d e :=
  ⟨h.records.profile, h.records.trial.watch, h.core⟩

theorem Quiet.serves {d e : Device} (h : Quiet d e) : Serves d e := h.settles.serves

theorem Serves.refl (d : Device) : Serves d d := (Quiet.refl d).serves

theorem Serves.trans {d e f : Device} (h : Serves d e) (k : Serves e f) : Serves d f :=
  ⟨h.profile.trans k.profile, h.law.trans k.law⟩

theorem KeepsLaw.refl (d : Device) : KeepsLaw d d := (Serves.refl d).law

/-- An operation with two branches, whatever decides between them. -/
theorem Quiet.ite {p : Prop} [Decidable p] {d e f : Device} (h : Quiet d e) (k : Quiet d f) :
    Quiet d (if p then e else f) := by
  split
  · exact h
  · exact k

theorem Settles.ite {p : Prop} [Decidable p] {d e f : Device} (h : Settles d e) (k : Settles d f) :
    Settles d (if p then e else f) := by
  split
  · exact h
  · exact k

/-- The end of a chain of operations, cited first. -/
theorem Quiet.after {d e f : Device} (k : Quiet e f) (h : Quiet d e) : Quiet d f := h.trans k
theorem Settles.after {d e f : Device} (k : Settles e f) (h : Settles d e) : Settles d f := h.trans k

/-! ### Notices, reports and the table -/

theorem Queues.quiet {d e : Device} (h : Queues d e) (blocks : KeepsBlocks d e) : Quiet d e :=
  blocks.quiet h.works (.of_bdt h.bdt)

theorem notify_quiet (n : Notice) (d : Device) : Quiet d (notify n d) :=
  (notify_queues n d).quiet (notify_keeps n d)

theorem queueEntry_quiet (k : UplinkKind) (p : List Byte) (d : Device) :
    Quiet d (queueEntry k p d).1 := (queueEntry_queues k p d).quiet (queueEntry_keeps k p d)

theorem callPosition_quiet (d : Device) : Quiet d (callPosition d) :=
  (callPosition_queues d).quiet (callPosition_keeps d)

theorem modeNotice_quiet (d : Device) : Quiet d (modeNotice d) := notify_quiet _ d

theorem setOutputs_quiet (d : Device) : Quiet d (setOutputs d) := .of_eq rfl rfl

theorem refreshBrakes_quiet (d : Device) : Quiet d (refreshBrakes d) := .of_eq rfl rfl

/-- An event of the table that leaves the POSITION condition as it is. -/
theorem bdtEvent_quiet (f : List Entry → List Entry) (d : Device)
    (hf : (bdtAfter f d).present .position = d.bdt.present .position) : Quiet d (bdtEvent f d) := by
  refine ⟨.of_mdc (bdtEvent_keeps f d).profile (bdtEvent_works f d).trial (bdtEvent_keeps f d).mdc, ?_⟩
  rw [causesNow, causesNow, (bdtEvent_works f d).ports.link]
  unfold bdtEvent
  rw [(abortIfEmergency_other apart_position _).present, tableEvent_bdt, hf]

/-- A change of entries that leaves their sources and conditions alone leaves every condition alone. -/
theorem present_onEntry (src x : Source) (f : Entry → Entry) (hs : ∀ e, (f e).src = e.src)
    (hc : ∀ e, (f e).cond = e.cond) (d : Device) :
    (bdtAfter (onEntry src f) d).present x = d.bdt.present x := by
  simp only [Bdt.present, bdtAfter_entries, onEntry, List.any_map]
  congr 1
  funext e
  dsimp only [Function.comp]
  split
  · rw [hs, hc]
  · rfl

theorem raiseWith_quiet (src : Source) (l : Level) (x : Option Nat) (d : Device)
    (hs : src ≠ .position) : Quiet d (raiseWith src l x d) :=
  (raiseWith_keeps src l x d).quiet (raiseWith_works src l x d)
    (raiseWith_other apart_position hs.symm l x d)

theorem setCondition_quiet (src : Source) (b : Bool) (d : Device)
    (hs : src ≠ .position) : Quiet d (setCondition src b d) :=
  (setCondition_keeps src b d).quiet (setCondition_works src b d)
    (setCondition_other apart_position hs.symm b d)

/-- A raise or a clear of POSITION leaves all but the cause alone. -/
theorem setCondition_mode (src : Source) (b : Bool) (d : Device) :
    KeepsMode d (setCondition src b d) :=
  .of_mdc (setCondition_keeps src b d).profile (setCondition_works src b d).trial
    (setCondition_keeps src b d).mdc

theorem clear_quiet (src : Source) (d : Device) (hs : src ≠ .position) :
    Quiet d (clear src d) :=
  (clear_keeps src d).quiet (bdtEvent_works _ d)
    (bdtEvent_other apart_position hs.symm _ clearEntry_src d)

/-! ### Brake tests -/

theorem endTest_quiet (r : TestResult) (c : EndCause) (d : Device) (h : d.bau.run ≠ none) :
    Quiet d (endTest r c d) :=
  (endTest_keeps r c d).quiet (endTest_works r c d h) (endTest_other apart_position r c d)

theorem judgeBrakeFault_quiet (b : Bool) (d : Device) : Quiet d (judgeBrakeFault b d) := by
  unfold judgeBrakeFault
  split
  · split
    · rename_i h
      exact endTest_quiet _ _ d (Option.isSome_iff_ne_none.mp h)
    · exact raiseWith_quiet _ _ _ d (by decide)
  · split
    · exact clear_quiet _ d (by decide)
    · exact .refl d

theorem judgeChannel_quiet (ch : Channel) (d : Device) : Quiet d (judgeChannel ch d) :=
  (judgeBrakeFault_quiet _ _).after (.of_eq rfl rfl)

/-- A phase begins within a running test. -/
theorem beginPhase_quiet (p : Phase) (k : Nat) (d : Device) (h : d.bau.run ≠ none) :
    Quiet d (beginPhase p k d) := by
  unfold beginPhase
  split
  · exact .of_trial rfl (.of_phase h rfl rfl)
  · exact endTest_quiet _ _ d h

theorem nextPhase_quiet (r : TestRun) (d : Device) (h : d.bau.run ≠ none) :
    Quiet d (nextPhase r d) := by
  have noted : Quiet d (notePhaseMovement d) := .of_trial rfl (.of_phase h rfl rfl)
  have begins := fun p k => beginPhase_quiet p k (notePhaseMovement d) h
  have ends := endTest_quiet .passed .completed (notePhaseMovement d) h
  unfold nextPhase
  dsimp only
  split
  · exact noted.trans (begins _ _)
  · exact noted.trans (begins _ _)
  · exact noted.trans (begins _ _)
  · split
    · split
      · exact noted.trans (begins _ _)
      · exact noted.trans ends
    · exact noted.trans ends

theorem testMovement_quiet (m : Nat) (d : Device) : Quiet d (testMovement m d) := by
  unfold testMovement
  split
  · rename_i r c hr hc
    have hrun : d.bau.run ≠ none := by simp [hr]
    split
    · have moved : Quiet d { d with bau := { d.bau with
          run := some { r with movement := r.movement + m } } } := .of_trial rfl (.of_phase hrun rfl rfl)
      dsimp only
      split
      · exact moved.trans (endTest_quiet _ _ _ (by simp))
      · exact moved
    · exact .refl d
  · exact .refl d

theorem testStandstillLost_quiet (d : Device) : Quiet d (testStandstillLost d) := by
  unfold testStandstillLost
  split
  · rename_i r hr
    have hrun : d.bau.run ≠ none := by simp [hr]
    split
    · exact .of_trial rfl (.of_phase hrun rfl rfl)
    · exact endTest_quiet _ _ d hrun
  · exact .refl d

theorem clearGuard_quiet (d : Device) : Quiet d (clearGuard d) := by
  cases h : d.bau.run with
  | none => exact .of_trial rfl (.of_run rfl (by simp [clearGuard, h]) rfl)
  | some r => exact .of_trial rfl (.of_phase (by simp [h]) rfl rfl)

/-! ### Doors -/

theorem setDoor_quiet (n : DoorNo) (r : DoorRec) (d : Device) : Quiet d (setDoor n r d) := by
  unfold setDoor
  dsimp only
  split
  · exact .of_eq rfl rfl
  · exact (notify_quiet _ _).after (.of_eq rfl rfl)

theorem eachDoor_quiet (f : DoorNo → DoorRec → DoorRec) (d : Device) : Quiet d (eachDoor f d) :=
  (((setDoor_quiet _ _ d).trans (setDoor_quiet _ _ _)).trans (setDoor_quiet _ _ _)).trans
    (setDoor_quiet _ _ _)

theorem withdrawRelease_quiet (d : Device) : Quiet d (withdrawRelease d) := by
  unfold withdrawRelease
  split
  · exact .refl d
  · exact (eachDoor_quiet _ _).after (.of_eq rfl rfl)

theorem judgeRelease_quiet (d : Device) : Quiet d (judgeRelease d) := by
  unfold judgeRelease
  split
  · exact .refl d
  · split
    · exact .refl d
    · exact withdrawRelease_quiet d

theorem judgeMoving_quiet (b : Bool) (d : Device) : Quiet d (judgeMoving b d) := by
  have ends : ∀ x : Device,
      Quiet x (if allSecured x then setCondition .doorMoving false x else x) := by
    intro x
    split
    · exact setCondition_quiet _ _ x (by decide)
    · exact .refl x
  cases b with
  | false => exact ends d
  | true => exact (setCondition_quiet .doorMoving true d (by decide)).trans (ends _)

theorem judgeConditions_quiet (b : Bool) (d : Device) : Quiet d (judgeConditions b d) :=
  ((setCondition_quiet _ _ d (by decide)).trans (judgeMoving_quiet b _)).trans
    (setCondition_quiet _ _ _ (by decide))

theorem takeReport_quiet (n : DoorNo) (x : Report) (d : Device) : Quiet d (takeReport n x d) := by
  unfold takeReport
  dsimp only
  split
  · exact .refl d
  · exact (setDoor_quiet _ _ d).trans (judgeConditions_quiet _ _)

theorem loseDoor_quiet (n : DoorNo) (d : Device) : Quiet d (loseDoor n d) := by
  unfold loseDoor
  dsimp only
  split
  · exact .refl d
  · exact (setDoor_quiet _ _ d).trans (judgeConditions_quiet _ _)

theorem judgeDoorsMoving_quiet (d : Device) : Quiet d (judgeDoorsMoving d) := by
  unfold judgeDoorsMoving
  split
  · exact setCondition_quiet _ _ d (by decide)
  · exact .refl d

theorem endTrans_quiet (t : Trans) (d : Device) : Quiet d (endTrans t d) := .of_eq rfl rfl
theorem mapLink_quiet (n : DoorNo) (f : LinkRec → LinkRec) (d : Device) :
    Quiet d (mapLink n f d) := .of_eq rfl rfl

theorem missTrans_quiet (t : Trans) (b : Bool) (d : Device) : Quiet d (missTrans t b d) := by
  unfold missTrans
  have h := (endTrans_quiet t d).trans (mapLink_quiet t.unit (missedLink b) _)
  dsimp only
  split
  · exact endTrans_quiet t d
  · split
    · exact h.trans (loseDoor_quiet _ _)
    · exact h

theorem reportTrans_quiet (t : Trans) (x : Report) (d : Device) : Quiet d (reportTrans t x d) := by
  unfold reportTrans
  dsimp only
  split
  · exact endTrans_quiet t d
  · exact ((endTrans_quiet t d).trans (mapLink_quiet _ _ _)).trans (takeReport_quiet _ _ _)

theorem waitTrans_quiet (t : Trans) (d : Device) : Quiet d (waitTrans t d) := by
  unfold waitTrans
  split
  · exact endTrans_quiet t d
  · split
    · exact .of_eq rfl rfl
    · exact missTrans_quiet t true d

theorem takeAnswer_quiet (judge : DoorNo → Answer) (d : Device) : Quiet d (takeAnswer judge d) := by
  unfold takeAnswer
  split
  · split
    · split
      · exact reportTrans_quiet _ _ d
      · exact waitTrans_quiet _ d
      · exact missTrans_quiet _ _ d
    · exact .refl d
  · exact .refl d

theorem isolateUnit_quiet (n : DoorNo) (d : Device) : Quiet d (isolateUnit n d) := by
  unfold isolateUnit
  dsimp only
  split
  · split
    · split <;> exact .of_eq rfl rfl
    · exact mapLink_quiet _ _ d
  · exact mapLink_quiet _ _ d

/-! ### Mode and causes -/

theorem rollawayTest_quiet (d : Device) : Quiet d (rollawayTest d) := by
  unfold rollawayTest
  split
  · exact setCondition_quiet _ _ d (by decide)
  · exact .refl d

theorem quietSupervisor_quiet (d : Device) : Quiet d (quietSupervisor d) := by
  unfold quietSupervisor
  have h := ((setCondition_quiet .overspeedSb false d (by decide)).trans
    (setCondition_quiet .overspeedEb false _ (by decide))).trans
      (setCondition_quiet .authority false _ (by decide))
  dsimp only
  split
  · exact h.trans (.of_eq rfl rfl)
  · exact (notify_quiet _ _).after (h.trans (.of_eq rfl rfl))

theorem refreshModeEntry_quiet (d : Device) : Quiet d (refreshModeEntry d) :=
  raiseWith_quiet _ _ _ d (by decide)

/-- The device with another mode and nothing else. -/
def Device.inMode (d : Device) (m : Mode) : Device := { d with mdc := { d.mdc with mode := m } }

/-- A change of mode sets the mode; all that it brings leaves the law of service alone. -/
theorem changeMode_quiet (m : Mode) (d : Device) : Quiet (d.inMode m) (changeMode m d) := by
  unfold changeMode
  split
  · rename_i h
    subst h
    exact .refl d
  · have h := (((refreshModeEntry_quiet (d.inMode m)).trans (setOutputs_quiet _)).trans
      (modeNotice_quiet _)).trans (callPosition_quiet _)
    dsimp only
    split
    · exact ((h.trans (quietSupervisor_quiet _)).trans (judgeRelease_quiet _)).trans
        (rollawayTest_quiet _)
    · exact (h.trans (judgeRelease_quiet _)).trans (rollawayTest_quiet _)

theorem inMode_records (m : Mode) (d : Device) : KeepsRecords d (d.inMode m) :=
  ⟨.of_eq rfl, .of_run rfl rfl rfl⟩

theorem changeMode_records (m : Mode) (d : Device) : KeepsRecords d (changeMode m d) :=
  (inMode_records m d).trans (changeMode_quiet m d).mode.records

/-- A change of mode keeps the law of service where the bare change of the mode does. -/
theorem changeMode_settles (m : Mode) (d : Device) (h : ServiceCore d → ServiceCore (d.inMode m)) :
    Settles d (changeMode m d) :=
  ⟨changeMode_records m d, fun c => (changeMode_quiet m d).core (h c)⟩

theorem reportCauses_records (d : Device) : KeepsRecords d (reportCauses d) := by
  unfold reportCauses
  have h : KeepsRecords d { d with mdc := { d.mdc with
      causePosition := (causesNow d).1, causeRadio := (causesNow d).2 } } :=
    ⟨.of_eq rfl, .of_run rfl rfl rfl⟩
  dsimp only
  split
  · exact ⟨.of_eq rfl, .of_run rfl rfl rfl⟩
  · split
    · exact h.trans (modeNotice_quiet _).mode.records
    · exact h.trans (changeMode_records _ _)

/-- The device with its cause set as the owners report it. -/
def Device.withCauses (d : Device) : Device :=
  { d with mdc := { d.mdc with causePosition := (causesNow d).1, causeRadio := (causesNow d).2 } }

/-- A changed cause set moves the car between SERVICE and DEGRADED only (R4). -/
theorem modeForCauses_eq_iff (m n : Mode) (c : Bool × Bool) (hn : n.inService = false) :
    modeForCauses m c = n ↔ m = n := by
  cases m with
  | service | degraded => cases n <;> simp_all [modeForCauses, Mode.inService] <;> split <;> simp
  | preparation | stabled | waking => rfl

/-- From SERVICE and DEGRADED the cause set decides between them (R4). -/
theorem modeForCauses_inService (m : Mode) (c : Bool × Bool) (hm : m.inService = true) :
    modeForCauses m c = if c = (false, false) then .service else .degraded := by
  obtain ⟨p, r⟩ := c
  cases m with
  | service | degraded => cases p <;> cases r <;> rfl
  | preparation | stabled | waking => cases hm

theorem modeForCauses_keeps_inService (m : Mode) (c : Bool × Bool) :
    (modeForCauses m c).inService = m.inService := by
  cases h : m.inService with
  | true =>
    rw [modeForCauses_inService m c h]
    split <;> rfl
  | false => rw [(modeForCauses_eq_iff m m c h).mpr rfl, h]

/-- The mode that a cause set calls for restores the law of service (R4). -/
theorem withCauses_core (d : Device) (b : ServiceBase d) :
    ServiceCore (d.withCauses.inMode (modeForCauses d.mdc.mode (causesNow d))) := by
  have same : ∀ n : Mode, n.inService = false →
      (modeForCauses d.mdc.mode (causesNow d) = n ↔ d.mdc.mode = n) :=
    fun n => modeForCauses_eq_iff _ n _
  have byCauses : (modeForCauses d.mdc.mode (causesNow d)).inService = true →
      modeForCauses d.mdc.mode (causesNow d)
        = if causesNow d = (false, false) then .service else .degraded := by
    rw [modeForCauses_keeps_inService]
    exact modeForCauses_inService _ _
  refine ⟨⟨fun hm => b.ready (mt (same .preparation rfl).mpr hm), fun hr => ?_,
    fun hw => (same .waking rfl).mpr (b.waking hw), fun hm => ?_, fun hm => ?_⟩, rfl⟩
  · obtain ⟨hm, ht⟩ := b.testing hr
    exact ⟨(same .preparation rfl).mpr hm, ht⟩
  · change modeForCauses _ _ = _ at hm
    have h := byCauses (by rw [hm]; rfl)
    rw [hm] at h
    change causesNow d = _
    by_contra hc
    rw [if_neg hc] at h
    cases h
  · change modeForCauses _ _ = _ at hm
    have h := byCauses (by rw [hm]; rfl)
    rw [hm] at h
    change causesNow d ≠ _
    intro hc
    rw [if_pos hc] at h
    cases h

/-- Reporting the causes restores the law of service, whatever has changed of them (R3, R4). -/
theorem reportCauses_core (d : Device) (b : ServiceBase d) : ServiceCore (reportCauses d) := by
  unfold reportCauses
  dsimp only
  split
  · rename_i h
    exact ⟨b, h.symm⟩
  · have h := withCauses_core d b
    split
    · rename_i hm
      rw [hm] at h
      exact (modeNotice_quiet _).core h
    · exact (changeMode_quiet _ d.withCauses).core h

theorem reportCauses_after {d e : Device} (h : KeepsMode d e) : Settles d (reportCauses e) :=
  ⟨h.records.trans (reportCauses_records e), fun c => reportCauses_core e (h.base c.base)⟩

end Sys2Proof.Machine
end

section
/-! What every operation of the blocks does to the law of service: an operation is quiet, or it reports the
causes that it changes. -/

namespace Sys2Proof.Machine

/-! ### The position record -/

theorem positionTest_settles (d : Device) : Settles d (positionTest d) :=
  reportCauses_after (setCondition_mode _ _ d)

theorem positionChanged_settles (d : Device) : Settles d (positionChanged d) :=
  (positionTest_settles d).trans (judgeRelease_quiet _).settles

theorem chooseSource_quiet (d : Device) : Quiet d (chooseSource d) := by
  unfold chooseSource
  dsimp only
  split
  · exact .refl d
  · exact .of_eq rfl rfl

theorem rackEntryTest_quiet (d : Device) : Quiet d (rackEntryTest d) := by
  unfold rackEntryTest
  split
  · exact .refl d
  · split
    · exact setCondition_quiet _ _ d (by decide)
    · split
      · exact setCondition_quiet _ _ d (by decide)
      · exact .refl d

theorem mapBogies_quiet (f : Bogie → MeshRec → MeshRec) (d : Device) : Quiet d (mapBogies f d) :=
  (.of_eq rfl rfl)

theorem setMesh_quiet (w : Bogie) (m : MeshRec) (d : Device) : Quiet d (setMesh w m d) := .of_eq rfl rfl

theorem meshChanged_quiet (d : Device) : Quiet d (meshChanged d) :=
  ((chooseSource_quiet d).trans (mapBogies_quiet _ _)).trans (rackEntryTest_quiet _)

theorem placeBogies_quiet (d : Device) : Quiet d (placeBogies d) := by
  unfold placeBogies
  dsimp only
  split
  · exact mapBogies_quiet _ d
  · exact (mapBogies_quiet _ d).trans (meshChanged_quiet _)

theorem placeAgain_settles (d : Device) : Settles d (placeAgain d) :=
  (placeBogies_quiet d).settles.trans (positionChanged_settles _)

/-! ### Mesh and calibration -/

theorem faultBogie_settles (w : Bogie) (d : Device) : Settles d (faultBogie w d) := by
  have raised : Quiet d (setCondition .mesh true
      { setMesh w (meshStart .fault) d with
        odu := { (setMesh w (meshStart .fault) d).odu with window := none } }) :=
    (setCondition_quiet _ _ _ (by decide)).after (.of_eq rfl rfl)
  exact (raised.trans (meshChanged_quiet _)).settles.trans (positionChanged_settles _)

theorem endMeshWindow_settles (w : Bogie) (m : MeshRec) (d : Device) :
    Settles d (endMeshWindow w m d) :=
  .ite (setMesh_quiet _ _ d).settles (faultBogie_settles w d)

theorem rackToothMesh_settles (w : Bogie) (d : Device) : Settles d (rackToothMesh w d) := by
  have written : ∀ m : MeshRec, Settles d (setMesh w m d) := fun m => (setMesh_quiet w m d).settles
  unfold rackToothMesh
  dsimp only
  split
  · exact written _
  · exact written _
  · exact .ite (((setMesh_quiet _ _ d).trans (meshChanged_quiet _)).settles.trans
      (positionChanged_settles _)) (written _)
  · exact .ite (endMeshWindow_settles w _ d) (written _)

theorem pinionToothMesh_quiet (w : Bogie) (d : Device) : Quiet d (pinionToothMesh w d) := by
  unfold pinionToothMesh
  dsimp only
  split
  · exact setMesh_quiet _ _ d
  · exact setMesh_quiet _ _ d
  · exact .refl d
  · exact .refl d

theorem missingRack_settles (n : Nat) (w : Bogie) (d : Device) : Settles d (missingRack n w d) := by
  unfold missingRack
  dsimp only
  split
  · split
    · exact faultBogie_settles w d
    · exact (setMesh_quiet _ _ d).settles
  · exact (setMesh_quiet _ _ d).settles

theorem recoverBogies_settles (d : Device) : Settles d (recoverBogies d) :=
  ((mapBogies_quiet _ d).trans (meshChanged_quiet _)).settles.trans (positionChanged_settles _)

theorem castVote_quiet (c : CarConfig) (k : Calib) (v : Leaning) (d : Device) :
    Quiet d (castVote c k v d) := by
  unfold castVote
  dsimp only
  split
  · split
    · exact .of_eq rfl rfl
    · exact (notify_quiet _ _).after (.of_eq rfl rfl)
  · exact .of_eq rfl rfl

theorem endCalWindow_quiet (n : Nat) (d : Device) : Quiet d (endCalWindow n d) := by
  unfold endCalWindow
  dsimp only
  split
  · split
    · exact (castVote_quiet _ _ _ _).after (.of_eq rfl rfl)
    · exact .of_eq rfl rfl
  · exact .of_eq rfl rfl

theorem calTooth_quiet (x : Sense) (d : Device) : Quiet d (calTooth x d) := by
  unfold calTooth
  split
  · exact .refl d
  · split
    · exact .of_eq rfl rfl
    · split
      · exact .of_eq rfl rfl
      · split
        · exact endCalWindow_quiet _ d
        · exact .of_eq rfl rfl

theorem calPulse_quiet (x : Sense) (d : Device) : Quiet d (calPulse x d) := by
  unfold calPulse
  split
  · exact .refl d
  · split <;> exact .of_eq rfl rfl

/-! ### A distance, an edge, the standstill indication -/

theorem movePosition_quiet (b : Bool) (n : Nat) (x : Option Dir) (d : Device) :
    Quiet d (movePosition b n x d) := by
  unfold movePosition
  dsimp only
  split
  · split
    · exact .of_eq rfl rfl
    · exact .ite (.of_eq rfl rfl) (.of_eq rfl rfl)
  · exact .of_eq rfl rfl

theorem rollawayDistance_quiet (n : Nat) (x : Option Dir) (d : Device) :
    Quiet d (rollawayDistance n x d) := (rollawayTest_quiet _).after (.of_eq rfl rfl)

theorem takeDistance_settles (b : Bool) (n : Nat) (x : Option Dir) (d : Device) :
    Settles d (takeDistance b n x d) := by
  have moved : Quiet d (movePosition b n x
      { d with odu := { d.odu with sampleAcc := d.odu.sampleAcc + n } }) :=
    (movePosition_quiet b n x _).after (.of_eq rfl rfl)
  exact (moved.settles.trans (placeAgain_settles _)).trans
    ((testMovement_quiet n _).trans (rollawayDistance_quiet n x _)).settles

theorem standstillCleared_quiet (d : Device) : Quiet d (standstillCleared d) :=
  (((testStandstillLost_quiet d).trans (setOutputs_quiet _)).trans (judgeRelease_quiet _)).trans
    (judgeDoorsMoving_quiet _)

theorem countEdge_quiet (d : Device) : Quiet d (countEdge d) := by
  unfold countEdge
  dsimp only
  split
  · exact (standstillCleared_quiet _).after (.of_eq rfl rfl)
  · exact .of_eq rfl rfl

theorem clearStartUpHold_quiet (d : Device) : Quiet d (clearStartUpHold d) := by
  unfold clearStartUpHold
  split
  · exact (refreshModeEntry_quiet _).after (.of_eq rfl rfl)
  · exact .refl d

theorem endWithdrawn_quiet (d : Device) : Quiet d (endWithdrawn d) := by
  unfold endWithdrawn
  split
  · split
    · exact (rollawayTest_quiet _).after (.of_eq rfl rfl)
    · exact .refl d
  · exact .refl d

theorem setStandstill_quiet (d : Device) : Quiet d (setStandstill d) := by
  have set : Quiet d (zeroRollaway { d with odu := { d.odu with standstill := true, dir := none } }) :=
    (.of_eq rfl rfl)
  have ended := (set.trans (setCondition_quiet .mesh false _ (by decide))).trans
    (setCondition_quiet .rollaway false _ (by decide))
  have cleared := (ended.trans (clearStartUpHold_quiet _)).trans (bdtEvent_quiet id _ rfl)
  exact ((cleared.trans (clearGuard_quiet _)).trans (refreshBrakes_quiet _)).trans
    (endWithdrawn_quiet _)

theorem countQuiet_quiet (d : Device) : Quiet d (countQuiet d) := by
  unfold countQuiet
  dsimp only
  split
  · exact .of_eq rfl rfl
  · split
    · exact (setStandstill_quiet _).after (.of_eq rfl rfl)
    · exact .of_eq rfl rfl

theorem twentiethQuiet_quiet (d : Device) : Quiet d (twentiethQuiet d) := by
  unfold twentiethQuiet
  split
  · exact (setStandstill_quiet _).after (.of_eq rfl rfl)
  · exact .refl d

/-! ### Supervision -/

theorem ssvEvent_quiet (src : Source) (a b : Bool) (x : Option Nat) (d : Device)
    (hs : src ≠ .position) : Quiet d (ssvEvent src a b x d) := by
  unfold ssvEvent
  split
  · exact raiseWith_quiet _ _ _ d hs
  · split
    · exact clear_quiet _ d hs
    · exact .refl d

theorem evaluate_quiet (d : Device) : Quiet d (evaluate d) := by
  unfold evaluate
  split
  · exact .refl d
  · split
    · rename_i c _ _
      have h : Quiet d { d with ssv := evaluated c d } := .of_eq rfl rfl
      have events := ((h.trans (ssvEvent_quiet .overspeedSb d.ssv.overspeedSb
        (evaluated c d).overspeedSb (some c.aSb) _ (by decide))).trans (ssvEvent_quiet .overspeedEb
        d.ssv.overspeedEb (evaluated c d).overspeedEb none _ (by decide))).trans (ssvEvent_quiet .authority
        d.ssv.authority (evaluated c d).authority none _ (by decide))
      dsimp only
      split
      · exact events
      · exact events.trans (notify_quiet _ _)
    · exact .refl d

/-! ### The radio link -/

/-- The actions of a change of link state touch the link state alone of what the law speaks of. -/
theorem linkActions_mode (l : LinkState) (d : Device) : KeepsMode d (linkActions l d) := by
  have queued : ∀ x : Device, (queueLogon x).bau = x.bau := by
    intro x
    unfold queueLogon roomForLogon dropQueuedReport dropOldestReport
    dsimp only
    split
    · rfl
    · split
      · rfl
      · split
        · split <;> rfl
        · split
          · exact (notify_queues _ _).bau
          · rfl
  have ended : ∀ x : Device, (endLogon x).bau = x.bau := by
    intro x
    unfold endLogon
    dsimp only
    split <;> rfl
  have entered : ∀ x : Device, (enterLink l x).bau = x.bau := by
    intro x
    cases l with
    | offline => rfl
    | loggingOn => exact queued x
    | lost => exact queued x
    | refused => exact ended x
    | online => exact ended x
  have hb : (linkActions l d).bau = d.bau := by
    unfold linkActions
    dsimp only
    split <;> exact entered _
  have hk := linkActions_keeps l d
  exact .of_mdc hk.profile (.of_bau hb) hk.mdc

theorem linkTo_settles (l : LinkState) (v : LinkEvent) (d : Device) : Settles d (linkTo l v d) :=
  reportCauses_after (((linkActions_mode l d).trans (notify_quiet _ _).mode).trans
    (setCondition_mode _ _ _))

theorem linkFlagCleared_settles (d : Device) : Settles d (linkFlagCleared d) := by
  unfold linkFlagCleared
  split
  · exact .refl d
  · exact linkTo_settles _ _ d

theorem linkCommit_settles (d : Device) : Settles d (linkCommit d) := by
  unfold linkCommit
  split
  · split
    · exact linkTo_settles _ _ d
    · exact .refl d
  · exact linkTo_settles _ _ d

theorem silenceExpires_settles (d : Device) : Settles d (silenceExpires d) := by
  unfold silenceExpires
  split
  · exact linkTo_settles _ _ d
  · exact .refl d

theorem judgeShadow_settles (d : Device) : Settles d (judgeShadow d) := by
  have h : ∀ b : Bool, Quiet d { d with vru := { d.vru with shadow := b } } := fun _ => .of_eq rfl rfl
  unfold judgeShadow
  dsimp only
  split
  · exact .refl d
  · split
    · exact (h _).settles.trans (silenceExpires_settles _)
    · exact (h _).settles

theorem pushAck_quiet (n : Byte) (r : Result) (d : Device) : Quiet d (pushAck n r d) := by
  unfold pushAck
  split
  · exact .of_eq rfl rfl
  · exact .refl d

theorem acknowledge_quiet (n : Byte) (d : Device) : Quiet d (acknowledge n d) := by
  unfold acknowledge
  split
  · split
    · exact .of_eq rfl rfl
    · exact .refl d
  · exact .refl d

theorem ackTimeout_quiet (n : Byte) (d : Device) : Quiet d (ackTimeout n d) := by
  unfold ackTimeout
  split
  · split
    · split
      · exact .of_eq rfl rfl
      · exact (notify_quiet _ _).after (.of_eq rfl rfl)
    · exact .refl d
  · exact .refl d

theorem telegramEnd_quiet (d : Device) : Quiet d (telegramEnd d) := by
  unfold telegramEnd
  split
  · exact .refl d
  · dsimp only
    split <;> exact .of_eq rfl rfl

theorem logonExpires_quiet (d : Device) : Quiet d (logonExpires d) := by
  unfold logonExpires
  split
  · exact .of_eq rfl rfl
  · exact .refl d

theorem reportExpires_quiet (d : Device) : Quiet d (reportExpires d) := by
  unfold reportExpires
  split
  · exact (callPosition_quiet _).after (.of_eq rfl rfl)
  · exact .refl d

/-- What closes a command. -/
theorem finish_quiet (d : Device) : Quiet d (finish d) := by
  have bus : ∀ x : Device, Quiet x (busPump x) := by
    intro x
    unfold busPump
    split
    · exact .refl x
    · split
      · exact .of_eq rfl rfl
      · exact .refl x
  have radio : ∀ x : Device, Quiet x (radioPump x) := by
    intro x
    unfold radioPump
    split
    · exact .refl x
    · split
      · exact .of_eq rfl rfl
      · split
        · exact .of_eq rfl rfl
        · exact .refl x
  have port : ∀ x : Device, Quiet x (linkPump x) := by
    intro x
    obtain ⟨c, hc⟩ := linkPump_frame x
    rw [hc]
    exact .of_eq rfl rfl
  exact ((bus d).trans (radio _)).trans (port _)

/-! ### Authority and restrictions -/

theorem setAuthority_quiet (a : Option Authority) (t : Option Timer) (d : Device) :
    Quiet d (setAuthority a t d) := (rollawayTest_quiet _).after (.of_eq rfl rfl)

theorem takeGrant_quiet (p : List Byte) (d : Device) : Quiet d (takeGrant p d).1 := by
  unfold takeGrant
  dsimp only
  split
  · split
    · exact .refl d
    · split
      · exact .refl d
      · split
        · exact .refl d
        · exact setAuthority_quiet _ _ d
  · exact .refl d

theorem takeShorten_quiet (p : List Byte) (d : Device) : Quiet d (takeShorten p d).1 := by
  unfold takeShorten
  split
  · exact .refl d
  · exact .of_eq rfl rfl

theorem withdrawAuthority_quiet (d : Device) : Quiet d (withdrawAuthority d) := by
  unfold withdrawAuthority
  split
  · exact .refl d
  · split
    · exact setAuthority_quiet _ _ d
    · split
      · exact .of_eq rfl rfl
      · exact setAuthority_quiet _ _ d

theorem authorityExpires_quiet (d : Device) : Quiet d (authorityExpires d) := by
  unfold authorityExpires
  split
  · exact withdrawAuthority_quiet d
  · exact .refl d

theorem noticePending_quiet {d : Device} (b : Bool) (x : Device × Result) (h : Quiet d x.1) :
    Quiet d (noticePending b x).1 := by
  unfold noticePending
  split
  · exact h.trans (notify_quiet _ _)
  · exact h

theorem stage_quiet (x : Staged) (r : Result) (d : Device) : Quiet d (stage x r d).1 := by
  unfold stage
  dsimp only
  split
  · exact .of_eq rfl rfl
  · exact .refl d

theorem tighten_quiet (r : Restriction) (d : Device) : Quiet d (tighten r d) := .of_eq rfl rfl

theorem takeRestriction_quiet (p : List Byte) (d : Device) : Quiet d (takeRestriction p d).1 := by
  unfold takeRestriction
  split
  · exact .refl d
  · refine noticePending_quiet _ _ ?_
    split
    · split
      · exact tighten_quiet _ d
      · exact setCondition_quiet _ _ d (by decide)
    · split
      · exact tighten_quiet _ d
      · split
        · exact stage_quiet _ _ d
        · exact (tighten_quiet _ d).trans (stage_quiet _ _ _)

theorem takeLift_quiet (p : List Byte) (d : Device) : Quiet d (takeLift p d).1 := by
  unfold takeLift
  dsimp only
  split
  · split
    · exact noticePending_quiet _ _ (stage_quiet _ _ d)
    · exact .refl d
  · exact .refl d

theorem judgeRoom_quiet (d : Device) : Quiet d (judgeRoom d) := by
  unfold judgeRoom
  split
  · exact setCondition_quiet _ _ d (by decide)
  · exact .refl d

theorem updateRestrictions_quiet (d : Device) : Quiet d (updateRestrictions d) :=
  (judgeRoom_quiet _).after (.of_eq rfl rfl)

theorem setStopOrder_quiet (b : Bool) (d : Device) : Quiet d (setStopOrder b d) :=
  (setCondition_quiet _ _ _ (by decide)).after (.of_eq rfl rfl)

/-! ### Telegrams -/

theorem logonAnswer_settles (b : Byte) (d : Device) : Settles d (logonAnswer b d) := by
  unfold logonAnswer
  split
  · split
    · exact linkTo_settles _ _ d
    · split
      · exact linkTo_settles _ _ d
      · exact .refl d
  · exact .refl d

theorem handToAru_quiet (k : DownKind) (p : List Byte) (d : Device) :
    Quiet d (handToAru k p d).1 := by
  cases k with
  | authorityGrant => exact takeGrant_quiet p d
  | authorityShorten => exact takeShorten_quiet p d
  | authorityWithdraw => exact withdrawAuthority_quiet d
  | restrictionSet => exact takeRestriction_quiet p d
  | restrictionLift => exact takeLift_quiet p d
  | stopOrder => exact setStopOrder_quiet true d
  | stopRelease => exact setStopOrder_quiet false d
  | logonAccept | uplinkAck | poll | unknown => exact .refl d

theorem enterWindow_quiet (n : Byte) (r : Result) (d : Device) : Quiet d (enterWindow n r d) :=
  .of_eq rfl rfl

theorem takeAcknowledged_quiet (k : DownKind) (t : Telegram) (d : Device) :
    Quiet d (takeAcknowledged k t d) := by
  unfold takeAcknowledged
  split
  · exact pushAck_quiet _ _ d
  · split
    · exact pushAck_quiet _ _ d
    · exact ((handToAru_quiet k _ d).trans (enterWindow_quiet _ _ _)).trans (pushAck_quiet _ _ _)

theorem foldl_quiet {α : Type} (f : Device → α → Device) (h : ∀ x a, Quiet x (f x a))
    (l : List α) (d : Device) : Quiet d (l.foldl f d) := by
  induction l generalizing d with
  | nil => exact .refl d
  | cons a l ih => exact (h d a).trans (ih _)

theorem actOn_settles (k : DownKind) (t : Telegram) (d : Device) : Settles d (actOn k t d) := by
  have acked : Settles d (takeAcknowledged k t d) := (takeAcknowledged_quiet k t d).settles
  cases k with
  | unknown => exact .refl d
  | logonAccept =>
    unfold actOn
    dsimp only
    split
    · exact logonAnswer_settles _ d
    · exact .refl d
  | uplinkAck =>
    unfold actOn
    dsimp only
    split
    · exact (foldl_quiet _ (fun x n => acknowledge_quiet n x) _ d).settles
    · exact .refl d
  | poll =>
    unfold actOn
    dsimp only
    split
    · exact (callPosition_quiet d).settles
    · exact .refl d
  | authorityGrant | authorityShorten | authorityWithdraw | restrictionSet | restrictionLift
  | stopOrder | stopRelease => exact acked

theorem restartSilence_quiet (d : Device) : Quiet d (restartSilence d) := by
  unfold restartSilence
  split
  · exact .of_eq rfl rfl
  · exact .refl d

theorem takeValid_settles (k : DownKind) (t : Telegram) (d : Device) :
    Settles d (takeValid k t d) := by
  unfold takeValid
  split
  · dsimp only
    split
    · exact (restartSilence_quiet d).settles.trans (actOn_settles _ _ _)
    · exact (restartSilence_quiet d).settles
  · exact .refl d

theorem takeTelegram_settles (k : DownKind) (t : Telegram) (d : Device) :
    Settles d (takeTelegram k t d) := by
  have dropped : Quiet d (dropTelegram d) := .of_eq rfl rfl
  exact dropped.settles.trans (takeValid_settles k t _)

theorem takeComplete_settles (frame : List Byte) (d : Device) :
    Settles d (takeComplete frame d) := by
  unfold takeComplete
  split
  · exact takeValid_settles _ _ d
  · exact .refl d

theorem foldl_settles {α : Type} (f : Device → α → Device) (h : ∀ x a, Settles x (f x a))
    (l : List α) (d : Device) : Settles d (l.foldl f d) := by
  induction l generalizing d with
  | nil => exact .refl d
  | cons a l ih => exact (h d a).trans (ih _)

theorem takeModemBytes_settles (bytes : List Byte) (d : Device) :
    Settles d (takeModemBytes bytes d) := by
  have kept : ∀ rx, Quiet d { d with vru := { d.vru with rx := rx } } := fun _ => .of_eq rfl rfl
  exact (kept _).settles.trans (foldl_settles _
    (fun x f => (takeComplete_settles f x).trans (finish_quiet _).settles) _ _)

end Sys2Proof.Machine
end

section
/-! Start-up: the table with MODE at EMERGENCY that every reset leaves, the brakes at rest under it, and what
the cold start and the warm restart make of the part (R13, R14, R104, R122). -/

namespace Sys2Proof.Machine

/-! ### MODE at EMERGENCY -/

/-- The MODE entry stands, ACTIVE at EMERGENCY (R104). -/
def Bdt.modeHolds (t : Bdt) : Prop :=
  (∃ e, e ∈ t.entriesOf .mode) ∧
    ∀ e ∈ t.entriesOf .mode, e.state = .active ∧ e.cond = true ∧ e.level = .emergency

theorem KeepsEntries.modeHolds {d e : Device} (h : KeepsEntries .mode d e)
    (k : d.bdt.modeHolds) : e.bdt.modeHolds := by
  rwa [Bdt.modeHolds, h]

theorem emergency_max (l : Level) : Level.max .emergency l = .emergency := by cases l <;> rfl
theorem max_emergency (l : Level) : Level.max l .emergency = .emergency := by cases l <;> rfl

theorem foldl_max_emergency (l : List Entry) (m : Level)
    (h : m = .emergency ∨ ∃ e ∈ l, e.level = .emergency) :
    l.foldl (fun m e => m.max e.level.counted) m = .emergency := by
  induction l generalizing m with
  | nil => simpa using h
  | cons x l ih =>
    refine ih _ ?_
    rcases h with rfl | ⟨e, he, hl⟩
    · exact .inl (emergency_max _)
    · rcases List.mem_cons.mp he with rfl | he
      · exact .inl (by simp only [hl, Level.counted, max_emergency])
      · exact .inr ⟨e, he, hl⟩

/-- An entry at EMERGENCY makes that the applied level (R92). -/
theorem appliedLevel_emergency {l : List Entry} {e : Entry} (he : e ∈ l)
    (hl : e.level = .emergency) : appliedLevel l = .emergency :=
  foldl_max_emergency l .none (.inr ⟨e, he, hl⟩)

/-- Under MODE at EMERGENCY a lawful table stands at EMERGENCY with the hold (R92, R94). -/
theorem Bdt.modeHolds_lawful {t : Bdt} (h : t.modeHolds) (lawful : t.lawful) :
    t.applied = .emergency ∧ t.hold = true := by
  obtain ⟨⟨e, he⟩, all⟩ := h
  obtain ⟨applied, -, hold⟩ := lawful
  have hmem := (Bdt.mem_entriesOf.mp he).1
  have hl := (all e he).2.2
  exact ⟨applied.trans (appliedLevel_emergency hmem hl),
    hold (List.any_eq_true.mpr ⟨e, hmem, by rw [hl]; rfl⟩)⟩

/-! ### The brakes at rest -/

/-- Both channels spring-applied as at start-up, no test, no blending, no traction (R121, R122). -/
structure Bau.AtRest (b : Bau) : Prop where
  run : b.run = none
  channelA : b.channels.a = startChannel b.channels.a.released
  channelB : b.channels.b = startChannel b.channels.b.released
  blend : b.blend = false
  ebLine : b.ebLine = true
  traction : b.traction = false

/-- The part as every reset leaves it, whatever start-up has raised since. -/
structure Restrained (d : Device) : Prop where
  table : d.bdt.modeHolds
  applied : d.bdt.applied = .emergency
  hold : d.bdt.hold = true
  brakes : d.bau.AtRest

/-- Outputs computed under the hold leave spring-applied channels as they are. -/
theorem setOutputs_atRest {d : Device} (run : d.bau.run = none)
    (channelA : d.bau.channels.a = startChannel d.bau.channels.a.released)
    (channelB : d.bau.channels.b = startChannel d.bau.channels.b.released)
    (blend : d.bau.blend = false) (applied : d.bdt.applied = .emergency)
    (hold : d.bdt.hold = true) : (setOutputs d).bau.AtRest := by
  have spring : ∀ ch, pattern d ch = .springApplied := by
    intro ch
    simp [pattern, run, tablePattern, hold]
  have still : ∀ r, commandChannel d .springApplied (startChannel r) = startChannel r := fun _ => rfl
  refine ⟨run, ?_, ?_, blend, ?_, ?_⟩
  · change commandChannel d (pattern d .a) d.bau.channels.a = startChannel _
    rw [spring, channelA, still]
    rfl
  · change commandChannel d (pattern d .b) d.bau.channels.b = startChannel _
    rw [spring, channelB, still]
    rfl
  · simp [setOutputs, emergencyRow, hold]
  · simp [setOutputs, tractionOf, applied]

/-- An event on another source's entry leaves the part restrained. -/
theorem tableEvent_restrained (src : Source) (f : Entry → Entry) (hf : ∀ e, (f e).src = e.src)
    (hs : Source.mode ≠ src) {d : Device} (h : Restrained d) :
    Restrained (tableEvent (onEntry src f) d) := by
  obtain ⟨table, -, -, run, channelA, channelB, blend, -, -⟩ := h
  have holds := (tableEvent_other src .mode f hf hs d).modeHolds table
  obtain ⟨applied, hold⟩ := Bdt.modeHolds_lawful holds (by
    rw [tableEvent_bdt]
    exact bdtAfter_lawful _ d)
  refine ⟨holds, applied, hold, ?_⟩
  rw [tableEvent_bdt] at applied hold
  have queued : ∀ x : Device, (tableReports d.bdt (tableNotices d.bdt x)).bdt = x.bdt
      ∧ (tableReports d.bdt (tableNotices d.bdt x)).bau = x.bau := fun x =>
    ⟨(tableReports_bdt _ _).trans (tableNotices_bdt _ _),
     (tableReports_queues _ _).bau.trans (tableNotices_queues _ _).bau⟩
  obtain ⟨hbdt, hbau⟩ := queued { d with bdt := bdtAfter (onEntry src f) d }
  unfold tableEvent blendAfter
  rw [if_pos (.inl (by rw [hbdt]; simp [applied]))]
  refine setOutputs_atRest ?_ ?_ ?_ rfl ?_ ?_
  · simpa [hbau] using run
  · simpa [hbau] using channelA
  · simpa [hbau] using channelB
  · simpa [hbdt] using applied
  · simpa [hbdt] using hold

theorem setCondition_restrained (src : Source) (hs : Source.mode ≠ src) (b : Bool) {d : Device}
    (h : Restrained d) : Restrained (setCondition src b d) := by
  unfold setCondition raise raiseWith clear
  rw [bdtEvent_of_idle _ d h.brakes.run, bdtEvent_of_idle _ d h.brakes.run]
  split
  · split
    · exact tableEvent_restrained src _ clearEntry_src hs h
    · exact tableEvent_restrained src _ (raiseEntry_src _) hs h
  · split
    · exact tableEvent_restrained src _ clearEntry_src hs h
    · exact h

theorem Queues.restrained {d e : Device} (h : Queues d e) (k : Restrained d) : Restrained e := by
  obtain ⟨table, applied, hold, brakes⟩ := k
  exact ⟨h.bdt ▸ table, h.bdt ▸ applied, h.bdt ▸ hold, h.bau ▸ brakes⟩

/-- With no test running a condition touches its own source's entry alone. -/
theorem setCondition_idle_other {x src : Source} (hs : x ≠ src) (b : Bool) {d : Device}
    (run : d.bau.run = none) : KeepsEntries x d (setCondition src b d) := by
  unfold setCondition raise raiseWith clear
  rw [bdtEvent_of_idle _ d run, bdtEvent_of_idle _ d run]
  split
  · split
    · exact tableEvent_other src x _ clearEntry_src hs d
    · exact tableEvent_other src x _ (raiseEntry_src _) hs d
  · split
    · exact tableEvent_other src x _ clearEntry_src hs d
    · exact .refl x d

/-- A condition is present after it has been told so, where the table has an entry for it. -/
theorem setCondition_present (src : Source) (b : Bool) (d : Device) (hs : src.apartFromTests)
    (hc : src.carriesLevel = false) (mem : ∃ e ∈ d.bdt.entries, e.src = src) :
    (setCondition src b d).bdt.present src = b := by
  have told : ∀ (f : Entry → Entry), (∀ e, (f e).src = e.src) → (∀ e, (f e).cond = b) →
      (bdtEvent (onEntry src f) d).bdt.present src = b := by
    intro f hsrc hcond
    unfold bdtEvent
    rw [(abortIfEmergency_other hs _).present, tableEvent_bdt]
    obtain ⟨e, he, rfl⟩ := mem
    cases b with
    | true =>
      refine List.any_eq_true.mpr ⟨f e, ?_, by simp [hsrc, hcond]⟩
      exact List.mem_map.mpr ⟨e, he, if_pos rfl⟩
    | false =>
      refine List.any_eq_false.mpr fun x hx => ?_
      obtain ⟨y, -, rfl⟩ := List.mem_map.mp hx
      by_cases hy : y.src = e.src
      · simp [hy, hcond]
      · simp [hy]
  unfold setCondition raise raiseWith clear
  split
  · rename_i h
    rw [if_neg (by simp [hc])]
    exact told _ (raiseEntry_src _) (by simpa using fun _ => h.1.symm)
  · split
    · rename_i h
      exact told _ clearEntry_src fun e => by simpa using h.1
    · rename_i h1 h2
      cases b with
      | true => simpa using h1
      | false => simpa using h2

/-! ### The conditions found at start-up -/

theorem startConditions_keeps (d : Device) : KeepsBlocks d (startConditions d) :=
  ((setCondition_keeps _ _ d).trans (setCondition_keeps _ _ _)).trans (setCondition_keeps _ _ _)

theorem startConditions_works (d : Device) : Works d (startConditions d) :=
  ((setCondition_works _ _ d).trans (setCondition_works _ _ _)).trans (setCondition_works _ _ _)

theorem startConditions_mode (d : Device) : KeepsMode d (startConditions d) :=
  .of_mdc (startConditions_keeps d).profile (startConditions_works d).trial
    (startConditions_keeps d).mdc

theorem startConditions_restrained {d : Device} (h : Restrained d) :
    Restrained (startConditions d) :=
  setCondition_restrained _ (by decide) _ (setCondition_restrained _ (by decide) _
    (setCondition_restrained _ (by decide) _ h))

/-- POSITION is present after start-up where the position is in doubt (R47, R60). -/
theorem startConditions_position (d : Device) (mem : ∃ e ∈ d.bdt.entries, e.src = .position) :
    (startConditions d).bdt.present .position = positionDoubtful d := by
  have h := (setCondition_other apart_position (by decide : Source.position ≠ .plunger)
    (setCondition .position (positionDoubtful d) d).pins.plunger
    (setCondition .position (positionDoubtful d) d)).present
  unfold startConditions
  dsimp only
  rw [(setCondition_other apart_position (by decide) _ _).present, h]
  exact setCondition_present _ _ d apart_position rfl mem

theorem startConditions_idle_other {x : Source} {d : Device} (run : d.bau.run = none)
    (hx : x ∉ [Source.position, .plunger, .doorHold]) :
    KeepsEntries x d (startConditions d) := by
  simp only [List.mem_cons, List.not_mem_nil, or_false, not_or] at hx
  obtain ⟨hPosition, hPlunger, hDoor⟩ := hx
  have run1 := ((setCondition_works .position (positionDoubtful d) d).trial.idle run).1
  have run2 := ((setCondition_works .plunger
    (setCondition .position (positionDoubtful d) d).pins.plunger _).trial.idle run1).1
  exact ((setCondition_idle_other hPosition _ run).trans
    (setCondition_idle_other hPlunger _ run1)).trans (setCondition_idle_other hDoor _ run2)

/-! ### The reset table -/

theorem Bdt.ordered.mem {t : Bdt} (h : t.ordered) (src : Source) :
    ∃ e ∈ t.entries, e.src = src := by
  have hm : src ∈ t.entries.map (·.src) := by
    rw [h]
    cases src <;> decide
  simpa using hm

theorem resetTable_ordered {l : List Entry} (h : l.map (·.src) = allSources) :
    (resetTable l).ordered := by
  simpa [Bdt.ordered, resetTable, Function.comp_def] using h

/-- The table at a reset stands at MODE with EMERGENCY (R104). -/
theorem resetTable_modeHolds {l : List Entry} (h : l.map (·.src) = allSources) :
    (resetTable l).modeHolds := by
  obtain ⟨e, he, hs⟩ := (resetTable_ordered h).mem .mode
  refine ⟨⟨e, Bdt.mem_entriesOf.mpr ⟨he, hs⟩⟩, fun x hx => ?_⟩
  obtain ⟨hx, hm⟩ := Bdt.mem_entriesOf.mp hx
  obtain ⟨y, -, rfl⟩ := List.mem_map.mp hx
  rw [resetEntry_src] at hm
  simp [resetEntry, hm, Entry.level, Source.carriesLevel]

/-- Every other entry is IDLE without its condition (R104). -/
theorem resetTable_other (l : List Entry) : ∀ e ∈ (resetTable l).entries, e.src ≠ .mode →
    e.state = .idle ∧ e.cond = false := by
  intro e he hm
  obtain ⟨y, -, rfl⟩ := List.mem_map.mp he
  rw [resetEntry_src] at hm
  simp [resetEntry, hm]

/-! ### The cold start -/

/-- Every block as a power-on or supply reset leaves it, with the watch at work again (R13). -/
def coldBlocks (d : Device) : Device :=
  { blankDevice d.now d.pins with
    mdc := coldRecord d.bau.resetCause blankMdc
    bau := { blankBau d.pins with watch := .normal, resetCause := d.bau.resetCause } }

theorem coldStart_eq (r : Nat) (d : Device) :
    coldStart r d = startConditions (judgeFirstSample r (startedNotice (coldBlocks d))) := rfl

theorem startedNotice_queues (d : Device) : Queues d (startedNotice d) := notify_queues _ d

theorem coldBlocks_restrained (d : Device) : Restrained (coldBlocks d) :=
  ⟨resetTable_modeHolds rfl, rfl, rfl, ⟨rfl, rfl, rfl, rfl, rfl, rfl⟩⟩

/-- The device with the watch as the first sample leaves it, before SUPPLY_LOW is judged. -/
def Device.firstReading (d : Device) (r : Nat) (w : Watch) : Device :=
  { d with bau := { d.bau with reading := r, firstSample := false, watch := w } }

theorem judgeFirstSample_low {r : Nat} (h : r < 220) (d : Device) :
    judgeFirstSample r d = notify (.supply .low r) (setCondition .supplyLow true
      (d.firstReading r .low)) := by
  unfold judgeFirstSample
  exact if_pos h

theorem judgeFirstSample_normal {r : Nat} (h : 220 ≤ r) (d : Device) :
    judgeFirstSample r d = d.firstReading r .normal := by
  unfold judgeFirstSample
  exact if_neg (Nat.not_lt.mpr h)

theorem firstReading_restrained {d : Device} (r : Nat) (w : Watch) (h : Restrained d) :
    Restrained (d.firstReading r w) := by
  obtain ⟨table, applied, hold, brakes⟩ := h
  exact ⟨table, applied, hold, ⟨brakes.run, brakes.channelA, brakes.channelB, brakes.blend,
    brakes.ebLine, brakes.traction⟩⟩

/-- What the first sample does, in one step from the reading (R120). -/
theorem judgeFirstSample_cases (r : Nat) (d : Device) :
    ∃ w, w = (if r < 220 then Watch.low else .normal)
      ∧ KeepsBlocks (d.firstReading r w) (judgeFirstSample r d)
      ∧ Works (d.firstReading r w) (judgeFirstSample r d)
      ∧ (∀ x, x ≠ .supplyLow → x.apartFromTests →
          KeepsEntries x (d.firstReading r w) (judgeFirstSample r d))
      ∧ (Restrained d → Restrained (judgeFirstSample r d)) := by
  by_cases h : r < 220
  · refine ⟨.low, (if_pos h).symm, ?_⟩
    rw [judgeFirstSample_low h]
    exact ⟨(setCondition_keeps _ _ _).trans (notify_keeps _ _),
      (setCondition_works _ _ _).trans (notify_queues _ _).works,
      fun x hx hapart => (setCondition_other hapart hx _ _).trans (.of_bdt (notify_bdt _ _)),
      fun k => (notify_queues _ _).restrained (setCondition_restrained _ (by decide) _
        (firstReading_restrained r .low k))⟩
  · refine ⟨.normal, (if_neg h).symm, ?_⟩
    rw [judgeFirstSample_normal (Nat.not_lt.mp h)]
    exact ⟨.refl _, .refl _, fun x _ _ => .refl x _, firstReading_restrained r .normal⟩

/-- What a cold start leaves (R13, R104, R120, R122). -/
structure ColdStarted (r : Nat) (o d : Device) : Prop where
  blocks : KeepsBlocks (coldBlocks o) d
  ports : KeepsPorts (startedNotice (coldBlocks o)) d
  restrained : Restrained d
  watch : d.bau.watch = if r < 220 then .low else .normal
  reading : d.bau.reading = r
  position : d.bdt.present .position = true

theorem coldStart_started (r : Nat) (o : Device) : ColdStarted r o (coldStart r o) := by
  obtain ⟨w, hw, blocks, works, other, restrained⟩ :=
    judgeFirstSample_cases r (startedNotice (coldBlocks o))
  have rested := startConditions_works (judgeFirstSample r (startedNotice (coldBlocks o)))
  have read : KeepsBlocks (coldBlocks o) ((startedNotice (coldBlocks o)).firstReading r w) :=
    KeepsBlocks.after (e := startedNotice (coldBlocks o))
      ⟨rfl, rfl, rfl, rfl, rfl, rfl, rfl, rfl, rfl, rfl⟩ (notify_keeps _ _)
  have known : ((startedNotice (coldBlocks o)).firstReading r w).odu.known = false := by
    rw [read.odu]
    rfl
  rw [coldStart_eq]
  refine ⟨(read.trans blocks).trans (startConditions_keeps _), ?_, ?_, ?_, ?_, ?_⟩
  · have first : KeepsPorts (startedNotice (coldBlocks o))
        ((startedNotice (coldBlocks o)).firstReading r w) := .of_eq rfl
    exact (first.trans works.ports).trans rested.ports
  · exact startConditions_restrained (restrained
      ((notify_queues _ _).restrained (coldBlocks_restrained o)))
  · rw [rested.trial.watch, works.trial.watch, ← hw]
    rfl
  · rw [rested.trial.reading, works.trial.reading]
    rfl
  · have entry : ((startedNotice (coldBlocks o)).firstReading r w).bdt.entriesOf .position
        = [resetEntry (defaultEntry .position)] := by
      change (startedNotice (coldBlocks o)).bdt.entriesOf .position = _
      rw [startedNotice, notify_bdt]
      rfl
    have mem : resetEntry (defaultEntry .position)
        ∈ (judgeFirstSample r (startedNotice (coldBlocks o))).bdt.entriesOf .position := by
      rw [other .position (by decide) apart_position, entry]
      exact List.mem_singleton.mpr rfl
    rw [startConditions_position _ ⟨_, Bdt.mem_entriesOf.mp mem⟩, positionDoubtful, blocks.odu, known]
    rfl

/-- A cold start leaves the law of service standing: PREPARATION with both causes. -/
theorem coldStart_core (r : Nat) (o : Device) : ServiceCore (coldStart r o) := by
  obtain ⟨blocks, ports, restrained, -, -, position⟩ := coldStart_started r o
  have mode : (coldStart r o).mdc.mode = .preparation := by
    rw [blocks.mdc]
    rfl
  have wake : (coldStart r o).mdc.wakeTimer = none := by
    rw [blocks.mdc]
    rfl
  have link : (coldStart r o).vru.link = .offline := by
    rw [ports.link, (startedNotice_queues _).ports.link]
    rfl
  refine ⟨⟨fun h => absurd mode h, fun h => absurd restrained.brakes.run h,
    fun h => absurd wake h, ?_, ?_⟩, ?_⟩
  · rw [mode]
    nofun
  · rw [mode]
    nofun
  · rw [causesNow, position, link, blocks.mdc]
    rfl

/-! ### The warm restart -/

/-- Where the causes call for no other mode, taking them in restores the law of service. -/
theorem withCauses_core_preparation {d : Device} (b : ServiceBase d)
    (h : d.mdc.mode = .preparation) : ServiceCore d.withCauses := by
  have k := withCauses_core d b
  rwa [(modeForCauses_eq_iff _ _ _ rfl).mpr h, ← h] at k

/-- The reports of a warm restart queue what they say, with the cause set taken in (log 10). -/
theorem restartReports_queues (m : Mode) (d : Device) :
    Queues d.withCauses (restartReports m d) := by
  unfold restartReports
  dsimp only
  split
  · exact (notify_queues _ _).trans (callPosition_queues _)
  · split
    · exact .refl _
    · exact notify_queues _ _

theorem restartReports_keeps (m : Mode) (d : Device) :
    KeepsBlocks d.withCauses (restartReports m d) := by
  unfold restartReports
  dsimp only
  split
  · exact (notify_keeps _ _).trans (callPosition_keeps _)
  · split
    · exact .refl _
    · exact notify_keeps _ _

/-- The part at a warm restart once STARTED is queued, before the conditions are found. -/
def restartBegun (d : Device) : Device := startedNotice (setOutputs (restartMesh (restartBlocks d)))

theorem warmRestart_eq (d : Device) :
    warmRestart d =
      let x := restartReports d.mdc.mode (startConditions (restartBegun d))
      if bothValid x then linkTo .loggingOn .bothValid x else x := rfl

theorem restartBegun_queues (d : Device) :
    Queues (setOutputs (restartMesh (restartBlocks d))) (restartBegun d) := notify_queues _ _

theorem restartBegun_keeps (d : Device) :
    KeepsBlocks (restartMesh (restartBlocks d)) (restartBegun d) :=
  (setOutputs_keeps _).trans (notify_keeps _ _)

theorem restartBegun_mode (d : Device) : KeepsMode (restartBlocks d) (restartBegun d) :=
  ((mapBogies_quiet _ _).trans ((setOutputs_quiet _).trans (notify_quiet _ _))).mode

theorem restartBlocks_base (d : Device) : ServiceBase (restartBlocks d) :=
  ⟨fun h => absurd rfl h, fun h => absurd rfl h, fun h => absurd rfl h, nofun, nofun⟩

/-- A warm restart keeps configuration, orientation and profile, and the watch (R14). -/
theorem warmRestart_records (d : Device) :
    KeepsProfile d (warmRestart d) ∧ (warmRestart d).bau.watch = d.bau.watch := by
  have begun := (restartBegun_mode d).trans (startConditions_mode _)
  have taken : KeepsRecords (startConditions (restartBegun d))
      (startConditions (restartBegun d)).withCauses := ⟨.of_eq rfl, .of_run rfl rfl rfl⟩
  have reported := (begun.records.trans taken).trans
    ((restartReports_queues d.mdc.mode _).quiet (restartReports_keeps _ _)).mode.records
  have whole : KeepsRecords (restartBlocks d) (warmRestart d) := by
    rw [warmRestart_eq]
    dsimp only
    split
    · exact reported.trans (linkTo_settles _ _ _).records
    · exact reported
  have blocks : KeepsProfile d (restartBlocks d) := .of_eq rfl
  exact ⟨blocks.trans whole.profile, whole.trial.watch⟩

/-- A warm restart restores the law of service, whatever went before. -/
theorem warmRestart_core (d : Device) : ServiceCore (warmRestart d) := by
  have begun := (restartBegun_mode d).trans (startConditions_mode _)
  have taken := withCauses_core_preparation (begun.base (restartBlocks_base d)) begun.mode
  have reported := ((restartReports_queues d.mdc.mode _).quiet (restartReports_keeps _ _)).core taken
  rw [warmRestart_eq]
  dsimp only
  split
  · exact (linkTo_settles _ _ _).core reported
  · exact reported

theorem warmRestart_serves (d : Device) : Serves d (warmRestart d) :=
  ⟨(warmRestart_records d).1, (warmRestart_records d).2, fun _ => warmRestart_core d⟩

end Sys2Proof.Machine
end

section
/-! The commands under the law of service: a request by its checks, a frame by its kind, and every row of the
command table. -/

namespace Sys2Proof.Machine

/-! ### Requests -/

theorem reply_quiet (t : Byte) (r : Option Reason) (x : ReplyData) (d : Device) :
    Quiet d (reply t r x d) := .of_eq rfl rfl

theorem hearFrame_quiet (d : Device) : Quiet d (hearFrame d) :=
  (setCondition_quiet _ _ _ (by decide)).after (.of_eq rfl rfl)

theorem dropFrame_quiet (d : Device) : Quiet d (dropFrame d) := .of_eq rfl rfl

theorem validFrame_quiet (d : Device) : Quiet d (validFrame d) :=
  (dropFrame_quiet d).trans (hearFrame_quiet _)

/-- A request judged by checks: what holds of a refusal and of the effect under the checks holds. -/
theorem judged_rel {R : Device → Device → Prop} (refl : ∀ d, R d d) (checks : List (Bool × Reason))
    (run : Device → Answered) (d : Device) (h : firstFailure checks = none → R d (run d).dev) :
    R d (judged checks run d).dev := by
  unfold judged
  split
  · exact refl d
  · exact h ‹_›

theorem firstFailure_cons {ok : Bool} {r : Reason} {rest : List (Bool × Reason)} :
    firstFailure ((ok, r) :: rest) = none ↔ ok = true ∧ firstFailure rest = none := by
  cases ok <;> simp [firstFailure]

theorem judged_serves (checks : List (Bool × Reason)) (run : Device → Answered) (d : Device)
    (h : firstFailure checks = none → Serves d (run d).dev) :
    Serves d (judged checks run d).dev := judged_rel Serves.refl checks run d h

theorem judged_law (checks : List (Bool × Reason)) (run : Device → Answered) (d : Device)
    (h : firstFailure checks = none → KeepsLaw d (run d).dev) :
    KeepsLaw d (judged checks run d).dev := judged_rel KeepsLaw.refl checks run d h

/-- An acceptance leaves the device that its effect gives. -/
theorem Serves.accepted {d e : Device} (h : Serves d e) : Serves d (accept e).dev := h

/-- A frame that has been heard: what quiet operations and the block's answer keep, the frame keeps. -/
theorem answerFrame_rel {R : Device → Device → Prop} (quiet : ∀ {d e}, Quiet d e → R d e)
    (trans : ∀ {d e f}, R d e → R e f → R d f) (q : Req) {body : Device → Answered}
    (h : ∀ d, R d (body d).dev) (d : Device) : R d (answerFrame q body d) := by
  unfold answerFrame
  split
  · exact quiet (.refl d)
  · split
    · exact trans (h d) (quiet (reply_quiet _ _ _ _))
    · exact quiet (reply_quiet _ _ _ _)

theorem request_serves (q : Req) {body : Device → Answered} (h : ∀ d, Serves d (body d).dev)
    (d : Device) : Serves d (request q body d) :=
  (validFrame_quiet d).serves.trans (answerFrame_rel Quiet.serves Serves.trans q h _)

theorem request_law (q : Req) {body : Device → Answered} (h : ∀ d, KeepsLaw d (body d).dev)
    (d : Device) : KeepsLaw d (request q body d) :=
  (validFrame_quiet d).serves.law.trans
    (answerFrame_rel (fun k => k.serves.law) KeepsLaw.trans q h _)

/-! ### Mode requests -/

theorem stopWake_core {d : Device} (c : ServiceCore d) : ServiceCore (stopWake d) := by
  obtain ⟨⟨ready, testing, -, service, degraded⟩, reported⟩ := c
  exact ⟨⟨ready, testing, fun h => absurd rfl h, service, degraded⟩, reported⟩

theorem stopWake_settles (d : Device) : Settles d (stopWake d) :=
  ⟨⟨.of_eq rfl, .of_run rfl rfl rfl⟩, stopWake_core⟩

/-- Outside PREPARATION no test runs. -/
theorem ServiceBase.run_none {d : Device} (b : ServiceBase d) (h : d.mdc.mode ≠ .preparation) :
    d.bau.run = none := by
  by_contra hr
  exact h (b.testing hr).1

/-- PREPARATION and STABLED take any car whose wake timer has stopped, PREPARATION even without a valid
profile. -/
theorem inMode_preparation_core {d : Device} (c : ServiceCore d) (wake : d.mdc.wakeTimer = none) :
    ServiceCore (d.inMode .preparation) :=
  ⟨⟨fun h => absurd rfl h,
    fun hr => ⟨rfl, (c.base.testing hr).2⟩, fun h => absurd wake h, nofun, nofun⟩, c.reported⟩

theorem inMode_stabled_core {d : Device} (c : ServiceCore d) (wake : d.mdc.wakeTimer = none)
    (hm : d.mdc.mode ≠ .preparation) : ServiceCore (d.inMode .stabled) :=
  ⟨⟨fun _ => c.base.ready hm, fun hr => absurd (c.base.run_none hm) hr,
    fun h => absurd wake h, nofun, nofun⟩, c.reported⟩

/-- The car goes into service in the mode its causes call for (R5, R7). -/
theorem inMode_service_core {d : Device} (c : ServiceCore d) (wake : d.mdc.wakeTimer = none)
    (ready : d.mdc.config ≠ none ∧ d.prs.valid = true ∧ d.bau.test.result = .passed)
    (run : d.bau.run = none) : ServiceCore (d.inMode (serviceMode d)) := by
  refine ⟨⟨fun _ => ready, fun hr => absurd run hr, fun h => absurd wake h, ?_, ?_⟩, c.reported⟩
  · intro h
    change serviceMode d = _ at h
    change (d.mdc.causePosition, d.mdc.causeRadio) = _
    unfold serviceMode at h
    cases hp : d.mdc.causePosition <;> cases hr : d.mdc.causeRadio <;> simp_all
  · intro h
    change serviceMode d = _ at h
    change (d.mdc.causePosition, d.mdc.causeRadio) ≠ _
    unfold serviceMode at h
    cases hp : d.mdc.causePosition <;> cases hr : d.mdc.causeRadio <;> simp_all

theorem ServiceBase.wake_none {d : Device} (b : ServiceBase d) (h : d.mdc.mode ≠ .waking) :
    d.mdc.wakeTimer = none := by
  by_contra hw
  exact h (b.waking hw)

theorem askEnterService_serves (d : Device) : Serves d (askEnterService d).dev := by
  refine judged_serves _ _ d fun h => ?_
  simp only [serviceChecks, firstFailure_cons, beq_iff_eq] at h
  obtain ⟨hmode, hconfig, hvalid, -, htest, -⟩ := h
  refine (changeMode_settles _ d fun c => ?_).serves
  refine inMode_service_core c (c.base.wake_none (by rw [hmode]; nofun))
    ⟨Option.isSome_iff_ne_none.mp hconfig, hvalid, htest⟩ ?_
  by_contra hr
  rw [(c.base.testing hr).2] at htest
  cases htest

theorem askEnterStabled_serves (d : Device) : Serves d (askEnterStabled d).dev := by
  have fromService : (d.mdc.mode = .service ∨ d.mdc.mode = .degraded) →
      Serves d (changeMode .stabled d) := by
    intro hm
    have hw : d.mdc.mode ≠ .waking ∧ d.mdc.mode ≠ .preparation := by
      rcases hm with hm | hm <;> rw [hm] <;> exact ⟨nofun, nofun⟩
    exact (changeMode_settles _ d fun c =>
      inMode_stabled_core c (c.base.wake_none hw.1) hw.2).serves
  unfold askEnterStabled
  split
  · exact judged_serves _ _ d fun _ => fromService (.inl ‹_›)
  · exact judged_serves _ _ d fun _ => fromService (.inr ‹_›)
  · rename_i hm
    refine ((stopWake_settles d).trans (changeMode_settles _ (stopWake d) fun c => ?_)).serves
    exact inMode_stabled_core c rfl (by change d.mdc.mode ≠ _; rw [hm]; nofun)
  · exact .refl d
  · exact .refl d

theorem askWake_serves (d : Device) : Serves d (askWake d).dev := by
  unfold askWake
  split
  · rename_i hm
    have started : KeepsRecords d (startWake d) := ⟨.of_eq rfl, .of_run rfl rfl rfl⟩
    have moved : Settles d (changeMode .waking (startWake d)) := by
      refine ⟨started.trans (changeMode_records _ _), fun c => (changeMode_quiet _ _).core ?_⟩
      have out : d.mdc.mode ≠ .preparation := by rw [hm]; nofun
      exact ⟨⟨fun _ => c.base.ready out, fun hr => absurd (c.base.run_none out) hr, fun _ => rfl,
        nofun, nofun⟩, c.reported⟩
    exact moved.serves
  · exact .refl d
  · exact .refl d

theorem askEnterPreparation_serves (d : Device) : Serves d (askEnterPreparation d).dev :=
  judged_serves _ _ d fun _ => ((stopWake_settles d).trans
    (changeMode_settles _ _ fun c => inMode_preparation_core c rfl)).serves

theorem askRestart_serves (d : Device) : Serves d (askRestart d).dev :=
  judged_serves _ _ d fun _ => Quiet.serves (.of_eq rfl rfl)

theorem wakeExpires_serves (d : Device) : Serves d (wakeExpires d) := by
  unfold wakeExpires
  split
  · rename_i hw
    have stopped := stopWake_settles d
    have updated := updateRestrictions_quiet (stopWake d)
    refine ⟨(stopped.records.trans (updated.mode.records.trans (changeMode_records _ _))).profile,
      (stopped.records.trans (updated.mode.records.trans (changeMode_records _ _))).trial.watch,
      fun c => (changeMode_quiet _ _).core ?_⟩
    have hm := c.base.waking (Option.isSome_iff_ne_none.mp hw)
    have core := updated.core (stopWake_core c)
    have out : (updateRestrictions (stopWake d)).mdc.mode ≠ .preparation := by
      rw [updated.mode.mode]
      change d.mdc.mode ≠ _
      rw [hm]
      nofun
    exact inMode_service_core core updated.mode.wakeTimer (core.base.ready out)
      (core.base.run_none out)
  · exact .refl d

theorem restartIfAccepted_serves (d : Device) : Serves d (restartIfAccepted d) := by
  unfold restartIfAccepted
  split
  · split
    · exact warmRestart_serves d
    · exact .refl d
  · exact .refl d

theorem askClearResetRecord_serves (d : Device) : Serves d (askClearResetRecord d).dev :=
  Quiet.serves (.of_eq rfl rfl)

/-! ### The three requests that write configuration, orientation or profile -/

/-- In PREPARATION, with no test running and the wake timer stopped, a record may change. -/
theorem preparation_base {d : Device} (mode : d.mdc.mode = .preparation)
    (testing : d.bau.run ≠ none → d.bau.test.result = .running) (wake : d.mdc.wakeTimer = none) :
    ServiceBase d :=
  ⟨fun h => absurd mode h, fun hr => ⟨mode, testing hr⟩, fun h => absurd wake h,
   fun h => (by rw [mode] at h; cases h), fun h => (by rw [mode] at h; cases h)⟩

/-- A change of records in PREPARATION that leaves mode, causes and test alone keeps the law. -/
theorem preparation_core {d e : Device} (mode : d.mdc.mode = .preparation)
    (sameMode : e.mdc.mode = d.mdc.mode)
    (sameCauses : (e.mdc.causePosition, e.mdc.causeRadio)
      = (d.mdc.causePosition, d.mdc.causeRadio))
    (sameWake : e.mdc.wakeTimer = d.mdc.wakeTimer) (sameBau : e.bau = d.bau)
    (sameNow : causesNow e = causesNow d) (c : ServiceCore d) : ServiceCore e := by
  refine ⟨preparation_base (sameMode.trans mode) ?_ ?_, ?_⟩
  · rw [sameBau]
    exact fun hr => (c.base.testing hr).2
  · rw [sameWake]
    exact c.base.wake_none (by rw [mode]; nofun)
  · rw [sameCauses, sameNow]
    exact c.reported

theorem configureSilence_quiet (c : CarConfig) (d : Device) : Quiet d (configureSilence c d) := by
  unfold configureSilence
  split
  · exact (setCondition_quiet _ _ _ (by decide)).after (.of_eq rfl rfl)
  · split
    · exact .of_eq rfl rfl
    · exact .refl d

/-- The record in force and the profile not valid: what an accepted CONFIGURE_CAR writes first (R12). -/
def Device.configured (d : Device) (c : CarConfig) : Device :=
  { d with mdc := { d.mdc with config := some c }, prs := { d.prs with valid := false } }

/-- The calibration at its start, and no calibration window (R12). -/
def Device.calibrated (d : Device) (c : CarConfig) : Device :=
  { d with odu := { d.odu with calib := some ⟨c.circInitial, c.calMin, .longer⟩, window := none } }

theorem configure_eq (c : CarConfig) (d : Device) :
    configure c d = configureSilence c (refreshModeEntry (placeAgain
      ((linkFlagCleared (d.configured c)).calibrated c))) := rfl

/-- What follows the writing of an accepted record. -/
theorem configure_settles (c : CarConfig) (d : Device) :
    Settles (d.configured c) (configure c d) := by
  have fresh : Quiet (linkFlagCleared (d.configured c))
      ((linkFlagCleared (d.configured c)).calibrated c) := .of_eq rfl rfl
  rw [configure_eq]
  exact (((linkFlagCleared_settles _).trans fresh.settles).trans (placeAgain_settles _)).trans
    ((refreshModeEntry_quiet _).trans (configureSilence_quiet c _)).settles

theorem askConfigure_law (r : CarConfig) (d : Device) : KeepsLaw d (askConfigure r d).dev := by
  refine judged_law _ _ d fun h => ?_
  simp only [firstFailure_cons, beq_iff_eq] at h
  split
  · exact .refl d
  · have settled := configure_settles r d
    exact ⟨settled.records.trial.watch,
      fun c => settled.core (preparation_core h.1 rfl rfl rfl rfl rfl c)⟩

theorem askOrientation_law (v : Option Dir) (d : Device) : KeepsLaw d (askOrientation v d).dev := by
  refine judged_law _ _ d fun h => ?_
  simp only [firstFailure_cons, beq_iff_eq] at h
  have settled := placeAgain_settles { d with mdc := { d.mdc with orientation := v } }
  exact ⟨settled.records.trial.watch, fun c => settled.core (preparation_core h.1 rfl rfl rfl rfl rfl c)⟩

theorem handOverCommit_settles (b : Bool) (d : Device) : Settles d (handOverCommit b d) := by
  have lost : Quiet d (forgetPosition d) := .of_eq rfl rfl
  cases b with
  | true => exact (placeAgain_settles d).trans (linkCommit_settles _)
  | false =>
    exact ((lost.settles.trans (placeAgain_settles _)).trans (judgeShadow_settles _)).trans
      (linkCommit_settles _)

theorem askCommit_law (d : Device) : KeepsLaw d (askCommit d).dev := by
  refine judged_law _ _ d fun h => ?_
  simp only [inPreparation, firstFailure_cons, beq_iff_eq] at h
  split
  · exact .refl d
  · have settled := handOverCommit_settles (d.prs.cur.digest == (profileOf d.prs.load).digest)
      { d with prs := { d.prs with cur := profileOf d.prs.load, valid := true } }
    exact ⟨settled.records.trial.watch, fun c => settled.core (preparation_core h.1 rfl rfl rfl rfl rfl c)⟩

/-! ### Profile, odometry and queries -/

theorem withLoad_quiet (f : LoadArea → LoadArea) (d : Device) : Quiet d (withLoad f d) := .of_eq rfl rfl

theorem askLoadLine_serves (l : BitVec 24) (v : BitVec 32) (d : Device) :
    Serves d (askLoadLine l v d).dev := judged_serves _ _ d fun _ => (withLoad_quiet _ d).serves.accepted

theorem askLoadSegment_serves (i : Byte) (r : SegmentBytes) (d : Device) :
    Serves d (askLoadSegment i r d).dev := by
  refine judged_serves _ _ d fun _ => ?_
  split
  · exact (withLoad_quiet _ d).serves.accepted
  · exact .refl d

theorem askLoadStation_serves (i : Byte) (r : StationBytes) (d : Device) :
    Serves d (askLoadStation i r d).dev := by
  refine judged_serves _ _ d fun _ => ?_
  split
  · exact (withLoad_quiet _ d).serves.accepted
  · exact .refl d

theorem askLoadMarker_serves (i : Byte) (r : MarkerRec) (d : Device) :
    Serves d (askLoadMarker i r d).dev := judged_serves _ _ d fun _ => (withLoad_quiet _ d).serves.accepted

theorem askClearLoad_serves (d : Device) : Serves d (askClearLoad d).dev :=
  judged_serves _ _ d fun _ => (withLoad_quiet _ d).serves.accepted

theorem askSegment_serves (i : Nat) (d : Device) : Serves d (askSegment i d).dev := by
  unfold askSegment
  split
  · exact .refl d
  · split <;> exact .refl d

/-- The odometry record as it may be written: nothing of the law of service stands there. -/
theorem odu_quiet (o : Odu) (d : Device) : Quiet d { d with odu := o } := .of_eq rfl rfl

theorem askSetPosition_serves (x u : Nat) (d : Device) : Serves d (askSetPosition x u d).dev :=
  judged_serves _ _ d fun _ => ((odu_quiet _ d).settles.trans
    ((placeAgain_settles _).trans (judgeShadow_settles _))).serves.accepted

theorem answerPart_dev (k : QueryKind) (n : Nat) (d : Device) : (answerPart k n d).dev = d := by
  unfold answerPart
  split
  · rfl
  · split
    · split <;> rfl
    · rfl

theorem query_serves (k : QueryKind) (p : Byte) (f : Device → Contents) (d : Device) :
    Serves d (query k p f d).dev := by
  unfold query
  split
  · rw [answerPart_dev]
    exact Quiet.serves (.of_eq rfl rfl)
  · rw [answerPart_dev]
    exact .refl d

/-! ### Demands and brakes -/

theorem newRow_cond (l : Level) (m : LatchMode) (e : Entry) : (newRow l m e).cond = e.cond := rfl
theorem releasedEntry_cond (e : Entry) : (releasedEntry e).cond = e.cond := rfl

theorem askReaction_serves (n : Nat) (l : Option Level) (m : Option LatchMode) (d : Device) :
    Serves d (askReaction n l m d).dev := by
  unfold askReaction
  split
  · exact .refl d
  · split
    · exact .refl d
    · split
      · exact .refl d
      · split
        · rename_i src _ _ _ _ l m
          split
          · exact (bdtEvent_quiet _ d (present_onEntry src .position _ (newRow_src l m)
              (newRow_cond l m) d)).serves
          · exact .refl d
        · exact .refl d

theorem releaseEntry_settles (src : Source) (d : Device) : Settles d (releaseEntry src d) := by
  have released := (bdtEvent_quiet (onEntry src releasedEntry) d (present_onEntry src .position _
    releasedEntry_src releasedEntry_cond d)).settles
  exact .ite (released.trans (recoverBogies_settles _)) released

theorem askAck_serves (n : Nat) (d : Device) : Serves d (askAck n d).dev := by
  unfold askAck
  split
  · exact .refl d
  · split
    · exact .refl d
    · split
      · exact .refl d
      · exact (releaseEntry_settles _ d).serves

theorem askBrakeRequest_serves (l : Option Level) (n : Nat) (d : Device) :
    Serves d (askBrakeRequest l n d).dev := by
  unfold askBrakeRequest
  split
  · exact .refl d
  · exact judged_serves _ _ d fun _ => (raiseWith_quiet _ _ _ d (by decide)).serves

theorem feedbackEdge_quiet (ch : Channel) (b : Bool) (d : Device) : Quiet d (feedbackEdge ch b d) :=
  (judgeRelease_quiet _).after (.ite ((judgeChannel_quiet ch _).after (.of_eq rfl rfl)) (.of_eq rfl rfl))

theorem feedbackExpires_quiet (ch : Channel) (d : Device) : Quiet d (feedbackExpires ch d) := by
  unfold feedbackExpires
  dsimp only
  split
  · exact (judgeChannel_quiet _ _).after (.of_eq rfl rfl)
  · exact .refl d

theorem phaseExpires_quiet (d : Device) : Quiet d (phaseExpires d) := by
  unfold phaseExpires
  split
  · rename_i r hr
    split
    · exact nextPhase_quiet r d (by simp [hr])
    · exact .refl d
  · exact .refl d

theorem askStopTest_serves (d : Device) : Serves d (askStopTest d).dev := by
  unfold askStopTest
  split
  · exact .refl d
  · rename_i r hr
    exact (endTest_quiet _ _ d (by simp [hr])).serves

/-- A started test: phase 1 runs with the record RUNNING, or the test has ended at once. -/
theorem beginTest_testing (h : Option (Nat × Nat)) (d : Device) (standstill : d.odu.standstill = true) :
    (beginTest h d).bau.test.result = .running ∧ (beginTest h d).mdc = d.mdc
      ∧ KeepsProfile d (beginTest h d) ∧ (beginTest h d).bau.watch = d.bau.watch
      ∧ causesNow (beginTest h d) = causesNow d := by
  unfold beginTest beginPhase
  rw [if_pos standstill]
  exact ⟨rfl, rfl, .of_eq rfl, rfl, rfl⟩

/-- The start of a test moves the car to PREPARATION, where a test may run (R4, R114). -/
theorem startTest_serves (h : Option (Nat × Nat)) (d : Device) (standstill : d.odu.standstill = true)
    (mode : d.mdc.mode ≠ .waking) : Serves d (startTest h d) := by
  obtain ⟨running, mdc, profile, watch, causes⟩ := beginTest_testing h d standstill
  have released := judgeRelease_quiet (beginTest h d)
  have changed := changeMode_quiet .preparation (judgeRelease (beginTest h d))
  have tested := rollawayTest_quiet (changeMode .preparation (judgeRelease (beginTest h d)))
  have records := (released.mode.records.trans (changeMode_records .preparation _)).trans
    tested.mode.records
  refine ⟨profile.trans records.profile, records.trial.watch.trans watch, fun c => ?_⟩
  refine tested.core (changed.core ⟨preparation_base rfl
    (released.mode.records.trial.running fun _ => running) ?_, ?_⟩)
  · change (judgeRelease (beginTest h d)).mdc.wakeTimer = none
    rw [released.mode.wakeTimer, mdc]
    exact c.base.wake_none mode
  · change ((judgeRelease (beginTest h d)).mdc.causePosition,
      (judgeRelease (beginTest h d)).mdc.causeRadio) = causesNow (judgeRelease (beginTest h d))
    rw [released.mode.causePosition, released.mode.causeRadio, released.causes, mdc, causes]
    exact c.reported

theorem askStartTest_serves (h : Option (Nat × Nat)) (d : Device) :
    Serves d (askStartTest h d).dev := by
  refine judged_serves _ _ d fun k => ?_
  simp only [testChecks, firstFailure_cons] at k
  obtain ⟨mode, -, -, standstill, -⟩ := k
  refine startTest_serves h d standstill fun hm => ?_
  rw [hm] at mode
  cases mode

/-! ### Doors, authority and link -/

theorem judgeDoorConditions_quiet (d : Device) : Quiet d (judgeDoorConditions d) :=
  judgeConditions_quiet false d

theorem grantRelease_quiet (x : Side) (d : Device) : Quiet d (grantRelease x d) :=
  (judgeDoorConditions_quiet _).after ((eachDoor_quiet _ _).after (.of_eq rfl rfl))

theorem closeDoors_quiet (x : SideSel) (d : Device) : Quiet d (closeDoors x d) :=
  (eachDoor_quiet _ _).after (.of_eq rfl rfl)

theorem askReleaseDoors_serves (x : Option Side) (d : Device) :
    Serves d (askReleaseDoors x d).dev := by
  refine judged_serves _ _ d fun _ => ?_
  split
  · exact (grantRelease_quiet _ d).serves.accepted
  · exact .refl d

theorem askCloseDoors_serves (x : Option SideSel) (d : Device) :
    Serves d (askCloseDoors x d).dev := by
  unfold askCloseDoors
  split
  · exact .refl d
  · exact judged_serves _ _ d fun _ => (closeDoors_quiet _ d).serves.accepted

theorem askIsolate_serves (n : Nat) (d : Device) : Serves d (askIsolate n d).dev := by
  unfold askIsolate
  split
  · exact .refl d
  · refine judged_serves _ _ d fun _ => Quiet.serves (.ite (.refl d) ?_)
    exact ((setDoor_quiet _ _ d).trans (isolateUnit_quiet _ _)).trans (judgeDoorConditions_quiet _)

theorem askDeisolate_serves (n : Nat) (d : Device) : Serves d (askDeisolate n d).dev := by
  unfold askDeisolate
  split
  · exact .refl d
  · exact judged_serves _ _ d fun _ =>
      ((setDoor_quiet _ _ d).trans (judgeDoorConditions_quiet _)).serves

theorem askClearFlags_serves (n : Nat) (d : Device) : Serves d (askClearFlags n d).dev := by
  unfold askClearFlags
  split
  · exact Quiet.serves (.of_eq rfl rfl)
  · split
    · exact (mapLink_quiet _ _ d).serves
    · exact .refl d

theorem dwellExpires_quiet (n : DoorNo) (d : Device) : Quiet d (dwellExpires n d) := by
  unfold dwellExpires
  dsimp only
  split
  · exact setDoor_quiet _ _ d
  · exact .refl d

theorem pollEnd_quiet (d : Device) : Quiet d (pollEnd d) := by
  unfold pollEnd
  split
  · split
    · exact .of_eq rfl rfl
    · exact .refl d
  · exact .refl d

theorem repeatPoll_quiet (d : Device) : Quiet d (repeatPoll d) := by
  unfold repeatPoll
  split
  · split
    · exact .of_eq rfl rfl
    · exact .refl d
  · exact .refl d

theorem selectDir_settles (x : Option Dir) (d : Device) : Settles d (selectDir x d) := by
  unfold selectDir
  split
  · exact .refl d
  · exact (judgeShadow_settles _).after (Quiet.settles (.of_eq rfl rfl))

theorem askSelectDirection_serves (x : Option (Option Dir)) (d : Device) :
    Serves d (askSelectDirection x d).dev := by
  unfold askSelectDirection
  split
  · exact .refl d
  · exact judged_serves _ _ d fun _ => (selectDir_settles _ d).serves

theorem askAuthority_serves (d : Device) : Serves d (askAuthority d).dev := by
  unfold askAuthority
  split
  · exact .refl d
  · dsimp only
    split <;> exact (queueEntry_quiet _ _ d).serves

theorem askAddRestriction_serves (i a b l : Nat) (x : Option AppliesTo) (d : Device) :
    Serves d (askAddRestriction i a b l x d).dev := by
  unfold askAddRestriction
  split
  · exact .refl d
  · exact .refl d
  · exact judged_serves _ _ d fun _ => Quiet.serves (.of_eq rfl rfl)

theorem askLiftRestriction_serves (i : Nat) (d : Device) :
    Serves d (askLiftRestriction i d).dev := by
  unfold askLiftRestriction
  split
  · exact .refl d
  · exact judged_serves _ _ d fun _ => Quiet.serves ((judgeRoom_quiet _).after (.of_eq rfl rfl))

theorem linkSilenceExpires_quiet (d : Device) : Quiet d (linkSilenceExpires d) := by
  unfold linkSilenceExpires
  split
  · exact (setCondition_quiet _ _ _ (by decide)).after (.of_eq rfl rfl)
  · exact .refl d

theorem freeTransmitter_quiet (d : Device) : Quiet d (freeTransmitter d) := .of_eq rfl rfl

theorem frameEnd_serves (d : Device) : Serves d (frameEnd d) := by
  unfold frameEnd
  split
  · split
    · exact warmRestart_serves d
    · exact (freeTransmitter_quiet d).serves
  · exact (freeTransmitter_quiet d).serves

theorem askStatus_serves (d : Device) : Serves d (askStatus d).dev := Quiet.serves (.of_eq rfl rfl)

/-! ### Edges and samples -/

theorem sourceTooth_settles (w : Bogie) (x : Sense) (d : Device) : Settles d (sourceTooth w x d) := by
  have counted : Quiet d (if d.odu.source = .rack w then calTooth x d else d) :=
    .ite (calTooth_quiet x d) (.refl d)
  unfold sourceTooth
  dsimp only
  split
  · exact counted.settles.trans (takeDistance_settles _ _ _ _)
  · exact counted.settles

theorem rackTooth_settles (w : Bogie) (x : Sense) (d : Device) : Settles d (rackTooth w x d) := by
  have meshed := (countEdge_quiet d).settles.trans (rackToothMesh_settles w _)
  exact .ite (meshed.trans (sourceTooth_settles w x _)) meshed

theorem meshWindowTooth_settles (w : Bogie) (x : Sense) (d : Device) :
    Settles d (meshWindowTooth w x d) := .ite (rackTooth_settles w x d) (.refl d)

theorem calibrationTooth_settles (d : Device) : Settles d (calibrationTooth d) := by
  unfold calibrationTooth
  split
  · split
    · exact rackTooth_settles _ _ d
    · exact .refl d
  · exact .refl d

theorem pinionTooth_quiet (w : Bogie) (d : Device) : Quiet d (pinionTooth w d) :=
  (countEdge_quiet d).trans (pinionToothMesh_quiet w _)

theorem wheelPulse_settles (x : Sense) (d : Device) : Settles d (wheelPulse x d) := by
  have counted := (countEdge_quiet d).trans (calPulse_quiet x _)
  unfold wheelPulse
  dsimp only
  split
  · have judged := fun (n : Nat) (r : Int) =>
      (counted.settles.trans (Quiet.settles (e := { calPulse x (countEdge d) with odu :=
        { (calPulse x (countEdge d)).odu with remainder := r } }) (.of_eq rfl rfl))).trans
        ((missingRack_settles n .a _).trans (missingRack_settles n .b _))
    exact .ite ((judged _ _).trans (takeDistance_settles _ _ _ _)) (judged _ _)
  · exact counted.settles

theorem setByMarker_settles (c : CarConfig) (f : Dir) (m : MarkerRec) (a b : Bool) (d : Device) :
    Settles d (setByMarker c f m a b d) :=
  ((placeAgain_settles _).trans (judgeShadow_settles _)).after (Quiet.settles (.of_eq rfl rfl))

theorem readMarker_settles (i : BitVec 16) (d : Device) : Settles d (readMarker i d) := by
  unfold readMarker
  split
  · split
    · exact (notify_quiet _ d).settles
    · split
      · split <;> exact setByMarker_settles _ _ _ _ _ d
      · exact setByMarker_settles _ _ _ _ _ d
  · exact .refl d

theorem sampleHandle_quiet (h : Nat) (f : Bool) (d : Device) : Quiet d (sampleHandle h f d) := by
  have told : Quiet d (raiseWith .driverHandle (handleDemand d.mdc.config h f).1
      (handleDemand d.mdc.config h f).2
      { d with bdt := { d.bdt with handleFaulty := handleIsFaulty h f } }) :=
    (raiseWith_quiet _ _ _ _ (by decide)).after
      (.of_eq rfl rfl)
  exact .ite (told.trans (notify_quiet _ _)) told

theorem judgeAlarmEntry_cond (b : Bool) (e : Entry) : (judgeAlarmEntry b e).cond = e.cond := by
  unfold judgeAlarmEntry
  split
  · split <;> rfl
  · split
    · rfl
    · split <;> rfl
  · rfl

theorem judgeAlarm_quiet (d : Device) : Quiet d (judgeAlarm d) :=
  bdtEvent_quiet _ d (present_onEntry _ _ _ (judgeAlarmEntry_src _) (judgeAlarmEntry_cond _) d)

theorem sampleSpeed_quiet (d : Device) : Quiet d (sampleSpeed d) := .of_eq rfl rfl

theorem speedSample_settles (h : Nat) (f : Bool) (d : Device) : Settles d (speedSample h f d) := by
  have counted := ((sampleSpeed_quiet d).trans (countQuiet_quiet _)).trans (rackEntryTest_quiet _)
  have judged := ((counted.trans (evaluate_quiet _)).trans (sampleHandle_quiet h f _)).trans
    (judgeAlarm_quiet _)
  exact ((judged.trans (refreshBrakes_quiet _)).trans (judgeRelease_quiet _)).settles.trans
    (judgeShadow_settles _)

end Sys2Proof.Machine
end

section
/-! The command table under the law of service, and the statements O16 and O17. -/

namespace Sys2Proof.Machine

/-! ### Frames from bytes -/

theorem requestBody_law (kind : Nat) (p : List Byte) (d : Device) :
    KeepsLaw d (requestBody kind p d).dev := by
  unfold requestBody
  split
  · exact askConfigure_law _ d
  · exact askOrientation_law _ d
  · exact (askEnterService_serves d).law
  · exact (askEnterStabled_serves d).law
  · exact (askWake_serves d).law
  · exact (askEnterPreparation_serves d).law
  · exact (askRestart_serves d).law
  · exact .refl d
  · exact (askClearResetRecord_serves d).law
  · exact (askLoadLine_serves _ _ d).law
  · exact (askLoadSegment_serves _ _ d).law
  · exact (askLoadStation_serves _ _ d).law
  · exact (askLoadMarker_serves _ _ d).law
  · exact (askClearLoad_serves d).law
  · exact askCommit_law d
  · exact .refl d
  · exact (askSegment_serves _ d).law
  · exact (askSetPosition_serves _ _ d).law
  · exact (query_serves _ _ _ d).law
  · exact (query_serves _ _ _ d).law
  · exact (askReaction_serves _ _ _ d).law
  · exact (askAck_serves _ d).law
  · exact (askBrakeRequest_serves _ _ d).law
  · exact (query_serves _ _ _ d).law
  · exact (askStartTest_serves _ d).law
  · exact (askStopTest_serves d).law
  · exact (query_serves _ _ _ d).law
  · exact (askReleaseDoors_serves _ d).law
  · exact (askCloseDoors_serves _ d).law
  · exact (askIsolate_serves _ d).law
  · exact (askDeisolate_serves _ d).law
  · exact (query_serves _ _ _ d).law
  · exact (askClearFlags_serves _ d).law
  · exact (query_serves _ _ _ d).law
  · exact (askSelectDirection_serves _ d).law
  · exact (askAuthority_serves d).law
  · exact (query_serves _ _ _ d).law
  · exact (askAddRestriction_serves _ _ _ _ _ d).law
  · exact (askLiftRestriction_serves _ d).law
  · exact (updateRestrictions_quiet d).serves.law
  · exact (query_serves _ _ _ d).law
  · exact (askStatus_serves d).law
  · exact .refl d

theorem takeFrame_law (frame : List Byte) (d : Device) : KeepsLaw d (takeFrame frame d) :=
  (hearFrame_quiet d).serves.law.trans
    (answerFrame_rel (fun k => k.serves.law) KeepsLaw.trans _ (requestBody_law _ _) _)

theorem keepAssembly_quiet (bytes : List Byte) (d : Device) : Quiet d (keepAssembly bytes d) :=
  .of_eq rfl rfl

theorem takeLinkBytes_law (bytes : List Byte) (d : Device) : KeepsLaw d (takeLinkBytes bytes d) := by
  have frames : ∀ (l : List (List Byte)) (x : Device),
      KeepsLaw x (l.foldl (fun x f => finish (takeFrame f x)) x) := by
    intro l
    induction l with
    | nil => exact .refl
    | cons f l ih =>
      exact fun x => ((takeFrame_law f x).trans (finish_quiet _).serves.law).trans (ih _)
  exact (keepAssembly_quiet bytes d).serves.law.trans (frames _ _)

/-! ### The rows of the command table -/

theorem whenUp_rel {R : Device → Device → Prop} (refl : ∀ d, R d d)
    (trans : ∀ {d e f}, R d e → R e f → R d f) (quiet : ∀ {d e}, Quiet d e → R d e)
    {f : Device → Device} {d : Device} (h : R d (f d)) : R d (whenUp f d) := by
  unfold whenUp
  split
  · exact refl d
  · exact trans h (quiet (finish_quiet _))

/-- A command that runs an operation while the part is up answers what the operation keeps. -/
theorem serves_of_up {f : Device → Device} {s t : State} (h : Serves s.dev (f s.dev))
    (ht : become s (whenUp f s.dev) = .next t) : Serves s.dev t.dev := by
  obtain rfl := Host.Outcome.next.inj ht
  exact whenUp_rel Serves.refl Serves.trans Quiet.serves h

theorem law_of_up {f : Device → Device} {s t : State} (h : KeepsLaw s.dev (f s.dev))
    (ht : become s (whenUp f s.dev) = .next t) : KeepsLaw s.dev t.dev := by
  obtain rfl := Host.Outcome.next.inj ht
  exact whenUp_rel KeepsLaw.refl KeepsLaw.trans (fun k => k.serves.law) h

/-- The same for a command that first moves the level of a line. -/
theorem serves_of_line {f g : Device → Device} {s t : State} (line : Quiet s.dev (g s.dev))
    (h : Serves (g s.dev) (f (g s.dev))) (ht : become s (whenUp f (g s.dev)) = .next t) :
    Serves s.dev t.dev := by
  obtain rfl := Host.Outcome.next.inj ht
  exact line.serves.trans (whenUp_rel Serves.refl Serves.trans Quiet.serves h)

theorem withContact_quiet (ch : Channel) (b : Bool) (d : Device) : Quiet d (withContact ch b d) := by
  cases ch <;> exact .of_eq rfl rfl

/-- The commands that can write configuration, orientation or profile (R10, R11, R13, R31): five rows, and
raw bytes that hold a valid frame. -/
def writesProfile (s : State) : Instr → Prop
  | .powerOn | .batterySample _ | .configureCar _ _ | .setOrientation _ _ | .commitProfile _ => True
  | .frameDiscarded bytes => validFrames bytes s.dev ≠ []
  | _ => False

/-- Every other command keeps configuration, orientation and profile, and the law of service. -/
theorem exec_serves (c : Instr) (s t : State) (hc : ¬ writesProfile s c)
    (ht : exec c s = .next t) : Serves s.dev t.dev := by
  cases c with
  | powerOn | batterySample | configureCar | setOrientation | commitProfile => exact absurd trivial hc
  | enterService q => exact serves_of_up (request_serves q askEnterService_serves _) ht
  | enterStabled q => exact serves_of_up (request_serves q askEnterStabled_serves _) ht
  | wake q => exact serves_of_up (request_serves q askWake_serves _) ht
  | enterPreparation q => exact serves_of_up (request_serves q askEnterPreparation_serves _) ht
  | restart q => exact serves_of_up (request_serves q askRestart_serves _) ht
  | warmRestart => exact serves_of_up (restartIfAccepted_serves _) ht
  | getResetRecord q => exact serves_of_up (request_serves q (body := askResetRecord) .refl _) ht
  | clearResetRecord q =>
    exact serves_of_up (request_serves q askClearResetRecord_serves _) ht
  | wakeTimerExpiry => exact serves_of_up (wakeExpires_serves _) ht
  | loadLine q l v => exact serves_of_up (request_serves q (askLoadLine_serves l v) _) ht
  | loadSegment q i r => exact serves_of_up (request_serves q (askLoadSegment_serves i r) _) ht
  | loadStation q i r => exact serves_of_up (request_serves q (askLoadStation_serves i r) _) ht
  | loadMarker q i r => exact serves_of_up (request_serves q (askLoadMarker_serves i r) _) ht
  | clearLoad q => exact serves_of_up (request_serves q askClearLoad_serves _) ht
  | getProfileInfo q => exact serves_of_up (request_serves q (body := askProfileInfo) .refl _) ht
  | getSegment q i => exact serves_of_up (request_serves q (askSegment_serves i) _) ht
  | rackToothEdge w x => exact serves_of_up (rackTooth_settles w x _).serves ht
  | pinionToothEdge w x => exact serves_of_up (pinionTooth_quiet w _).serves ht
  | wheelPulse x => exact serves_of_up (wheelPulse_settles x _).serves ht
  | meshWindowEnd w x => exact serves_of_up (meshWindowTooth_settles w x _).serves ht
  | calibrationWindowEnd => exact serves_of_up (calibrationTooth_settles _).serves ht
  | markerRead i => exact serves_of_up (readMarker_settles i _).serves ht
  | setPosition q x u => exact serves_of_up (request_serves q (askSetPosition_serves x u) _) ht
  | getOdometry q p => exact serves_of_up (request_serves q (query_serves _ p _) _) ht
  | speedSample h f => exact serves_of_up (speedSample_settles h f _).serves ht
  | standstillSet => exact serves_of_up (twentiethQuiet_quiet _).serves ht
  | getSupervision q p => exact serves_of_up (request_serves q (query_serves _ p _) _) ht
  | plungerEdge b =>
    exact serves_of_line (g := withPlunger b) (.of_eq rfl rfl)
      (setCondition_quiet _ _ _ (by decide)).serves ht
  | setReaction q n l m => exact serves_of_up (request_serves q (askReaction_serves n l m) _) ht
  | ackDemand q n => exact serves_of_up (request_serves q (askAck_serves n) _) ht
  | brakeRequest q l n => exact serves_of_up (request_serves q (askBrakeRequest_serves l n) _) ht
  | getDemands q p => exact serves_of_up (request_serves q (query_serves _ p _) _) ht
  | feedbackEdge ch b =>
    exact serves_of_line (withContact_quiet ch b _) (feedbackEdge_quiet ch b _).serves ht
  | feedbackTimerExpiry ch => exact serves_of_up (feedbackExpires_quiet ch _).serves ht
  | electricBrakeAvailableEdge b =>
    exact serves_of_line (g := withEdbLine b) (.of_eq rfl rfl) (refreshBrakes_quiet _).serves ht
  | startBrakeTest q h => exact serves_of_up (request_serves q (askStartTest_serves h) _) ht
  | stopBrakeTest q => exact serves_of_up (request_serves q askStopTest_serves _) ht
  | phaseTimerExpiry => exact serves_of_up (phaseExpires_quiet _).serves ht
  | getTest q p => exact serves_of_up (request_serves q (query_serves _ p _) _) ht
  | releaseDoors q x => exact serves_of_up (request_serves q (askReleaseDoors_serves x) _) ht
  | closeDoors q x => exact serves_of_up (request_serves q (askCloseDoors_serves x) _) ht
  | isolateDoor q n => exact serves_of_up (request_serves q (askIsolate_serves n) _) ht
  | deisolateDoor q n => exact serves_of_up (request_serves q (askDeisolate_serves n) _) ht
  | getDoors q p => exact serves_of_up (request_serves q (query_serves _ p _) _) ht
  | reopenDwellExpiry n => exact serves_of_up (dwellExpires_quiet n _).serves ht
  | pollSent => exact serves_of_up (pollEnd_quiet _).serves ht
  | doorAnswerReport a => exact serves_of_up (takeAnswer_quiet _ _).serves ht
  | doorAnswerWait a => exact serves_of_up (takeAnswer_quiet _ _).serves ht
  | repeatPoll => exact serves_of_up (repeatPoll_quiet _).serves ht
  | badAnswer b => exact serves_of_up (takeAnswer_quiet _ _).serves ht
  | answerWindowClose => exact serves_of_up (f := windowCloses) (takeAnswer_quiet _ _).serves ht
  | clearDoorFlags q n => exact serves_of_up (request_serves q (askClearFlags_serves n) _) ht
  | logonAccept t => exact serves_of_up (takeTelegram_settles _ t _).serves ht
  | logonTimerExpiry => exact serves_of_up (logonExpires_quiet _).serves ht
  | silenceTimerExpiry => exact serves_of_up (silenceExpires_settles _).serves ht
  | reportIntervalExpiry => exact serves_of_up (reportExpires_quiet _).serves ht
  | ackTimeoutExpiry n => exact serves_of_up (ackTimeout_quiet n _).serves ht
  | telegramSent => exact serves_of_up (telegramEnd_quiet _).serves ht
  | downlinkDiscarded b => exact serves_of_up (takeModemBytes_settles b _).serves ht
  | telegramAssemblyTimeout => exact serves_of_up (f := dropTelegram) (Quiet.serves (.of_eq rfl rfl)) ht
  | unknownTelegramKind k t => exact serves_of_up (takeTelegram_settles _ t _).serves ht
  | uplinkAck t => exact serves_of_up (takeTelegram_settles _ t _).serves ht
  | poll t => exact serves_of_up (takeTelegram_settles _ t _).serves ht
  | authorityGrant t => exact serves_of_up (takeTelegram_settles _ t _).serves ht
  | authorityShorten t => exact serves_of_up (takeTelegram_settles _ t _).serves ht
  | authorityWithdraw t => exact serves_of_up (takeTelegram_settles _ t _).serves ht
  | authorityExpiry => exact serves_of_up (authorityExpires_quiet _).serves ht
  | restrictionSet t => exact serves_of_up (takeTelegram_settles _ t _).serves ht
  | restrictionLift t => exact serves_of_up (takeTelegram_settles _ t _).serves ht
  | stopOrder t => exact serves_of_up (takeTelegram_settles _ t _).serves ht
  | stopRelease t => exact serves_of_up (takeTelegram_settles _ t _).serves ht
  | getRadio q p b =>
    exact serves_of_line (g := withCarrier b) (.of_eq rfl rfl) (request_serves q (query_serves _ p _) _) ht
  | selectDirection q x => exact serves_of_up (request_serves q (askSelectDirection_serves x) _) ht
  | requestAuthority q => exact serves_of_up (request_serves q askAuthority_serves _) ht
  | getAuthority q p => exact serves_of_up (request_serves q (query_serves _ p _) _) ht
  | addRestriction q i a b l x =>
    exact serves_of_up (request_serves q (askAddRestriction_serves i a b l x) _) ht
  | liftRestriction q i => exact serves_of_up (request_serves q (askLiftRestriction_serves i) _) ht
  | acceptRelaxations q =>
    exact serves_of_up (request_serves q (body := askAcceptRelaxations)
      (fun d => (updateRestrictions_quiet d).serves) _) ht
  | getRestrictions q p => exact serves_of_up (request_serves q (query_serves _ p _) _) ht
  | getStatus q =>
    exact serves_of_up (request_serves q askStatus_serves _) ht
  | unknownKind tag kind =>
    exact serves_of_up (request_serves _ (body := refuse .unknownKind) .refl _) ht
  | frameDiscarded b =>
    refine serves_of_up ?_ ht
    rw [takeLinkBytes_of_none b _ (not_not.mp hc)]
    exact (keepAssembly_quiet b _).serves
  | frameAssemblyTimeout => exact serves_of_up (dropFrame_quiet _).serves ht
  | linkSilenceTimerExpiry => exact serves_of_up (linkSilenceExpires_quiet _).serves ht
  | frameSent => exact serves_of_up (frameEnd_serves _) ht

/-! ### The law of service -/

theorem KeepsLaw.serviceLaw {d e : Device} (h : KeepsLaw d e) (k : ServiceLaw d) : ServiceLaw e := by
  rw [serviceLaw_iff] at k ⊢
  rw [h.watch]
  exact fun hw => h.core (k hw)

/-- In CUTOFF the law of service asks for nothing. -/
theorem serviceLaw_of_cutoff {d : Device} (h : d.bau.watch = .cutoff) : ServiceLaw d :=
  fun hw => absurd h hw

theorem firstReading_core (r : Nat) (w : Watch) {d : Device} (c : ServiceCore d) :
    ServiceCore (d.firstReading r w) := by
  obtain ⟨⟨ready, testing, waking, service, degraded⟩, reported⟩ := c
  exact ⟨⟨ready, testing, waking, service, degraded⟩, reported⟩

/-- The device with a reading and a state of the watch. -/
def Device.watched (d : Device) (r : Nat) (w : Watch) : Device :=
  { d with bau := { d.bau with reading := r, watch := w } }

theorem watched_core (r : Nat) (w : Watch) {d : Device} (c : ServiceCore d) :
    ServiceCore (d.watched r w) := by
  obtain ⟨⟨ready, testing, waking, service, degraded⟩, reported⟩ := c
  exact ⟨⟨ready, testing, waking, service, degraded⟩, reported⟩

/-- A battery sample writes the watch and raises SUPPLY_LOW, or restarts the part, or cuts it off
(R120). -/
theorem takeBatterySample_serviceLaw (r : Nat) (d : Device) (h : ServiceLaw d) :
    ServiceLaw (takeBatterySample r d) := by
  unfold takeBatterySample
  split
  · rename_i hw
    split
    · exact (serviceLaw_iff _).mpr fun _ => (finish_quiet _).core (coldStart_core r d)
    · exact serviceLaw_of_cutoff hw
  · rename_i hw
    have core := (serviceLaw_iff d).mp h hw
    have told : ∀ (w : Watch) (b : Bool),
        ServiceCore (notify (.supply w r) (setCondition .supplyLow b (d.watched r w))) := fun w b =>
      (notify_quiet _ _).core ((setCondition_quiet _ _ _ (by decide)).core (watched_core r w core))
    unfold watchSample
    split
    · exact serviceLaw_of_cutoff rfl
    · refine (serviceLaw_iff _).mpr fun _ => (finish_quiet _).core ?_
      dsimp only
      split
      · unfold judgeFirstSample
        dsimp only
        split
        · exact (notify_quiet _ _).core ((setCondition_quiet _ _ _ (by decide)).core
            (firstReading_core r .low core))
        · exact firstReading_core r .normal core
      · split
        · exact told .low true
        · split
          · exact told .normal false
          · exact watched_core r d.bau.watch core

theorem exec_serviceLaw (c : Instr) (s t : State) (h : ServiceLaw s.dev)
    (ht : exec c s = .next t) : ServiceLaw t.dev := by
  by_cases hc : writesProfile s c
  · cases c with
    | powerOn =>
      obtain rfl := Host.Outcome.next.inj ht
      exact serviceLaw_of_cutoff rfl
    | batterySample r =>
      obtain rfl := Host.Outcome.next.inj ht
      exact takeBatterySample_serviceLaw r _ h
    | configureCar q r => exact (law_of_up (request_law q (askConfigure_law r) _) ht).serviceLaw h
    | setOrientation q v =>
      exact (law_of_up (request_law q (askOrientation_law v) _) ht).serviceLaw h
    | commitProfile q => exact (law_of_up (request_law q askCommit_law _) ht).serviceLaw h
    | frameDiscarded b => exact (law_of_up (takeLinkBytes_law b _) ht).serviceLaw h
    | _ => exact hc.elim
  · exact (exec_serves c s t hc ht).law.serviceLaw h

/-- Settles O16: every command either keeps the law's subject, or reports the cause that it changes, or
changes the mode under the checks of its rule; the resets restore the law. -/
theorem serviceLawKept : Obligations.ServiceLawKept := by
  intro s t h ht
  unfold step at ht
  split at ht
  · obtain rfl := Host.Outcome.next.inj ht
    exact h
  · rename_i c rest hp
    exact exec_serviceLaw c { s with pending := rest } t h ht

/-- Settles O17: of the commands left, each keeps what it keeps of the law of service with the profile. -/
theorem configurationAndProfileFrame : Obligations.ConfigurationAndProfileFrame := by
  intro c s t configure orient commit power sample bytes ht
  have hc : ¬ writesProfile s c := by
    intro hw
    cases c with
    | powerOn => exact power rfl
    | batterySample r => exact sample r rfl
    | configureCar q r => exact configure q r rfl
    | setOrientation q v => exact orient q v rfl
    | commitProfile q => exact commit q rfl
    | frameDiscarded b => exact hw (bytes b rfl)
    | _ => exact hw.elim
  have kept := (exec_serves c s t hc ht).profile
  exact ⟨kept.cur, kept.valid, kept.config, kept.orientation⟩

end Sys2Proof.Machine
end

section
/-! The statements of Mode Control about requests and refusals: O5, O18, O22, O23, O25, O27. -/

namespace Sys2Proof.Machine

/-! ### A request that is taken -/

theorem judged_accepted {checks : List (Bool × Reason)} (run : Device → Answered) (d : Device)
    (h : firstFailure checks = none) : judged checks run d = run d := by rw [judged, h]

theorem judged_refused {checks : List (Bool × Reason)} {r : Reason} (run : Device → Answered)
    (d : Device) (h : firstFailure checks = some r) : judged checks run d = refuse r d := by
  rw [judged, h]

theorem whenUp_up {d : Device} (h : d.bau.watch ≠ .cutoff) (f : Device → Device) :
    whenUp f d = finish (f d) := if_neg h

/-- A request that is taken is answered by its block, and the command closed (R185). -/
theorem request_taken {q : Req} {s : State} (h : Taken q s) (body : Device → Answered) :
    become s (whenUp (request q body) s.dev) =
      .next (s.replied q (body (validFrame s.dev)).reason (body (validFrame s.dev)).data
        (body (validFrame s.dev)).dev) := by
  obtain ⟨up, restarting, room, fits⟩ := h
  rw [whenUp_up up, request, answerFrame, if_neg (by simp [restarting, room]), if_pos fits]
  rfl

/-- A request that is taken and answered as given. -/
theorem request_answered {q : Req} {s : State} (h : Taken q s) {body : Device → Answered}
    {d : Device} {r : Option Reason} {x : ReplyData} (ha : body (validFrame s.dev) = ⟨d, r, x⟩) :
    become s (whenUp (request q body) s.dev) = .next (s.replied q r x d) := by
  rw [request_taken h, ha]

theorem request_accepted {q : Req} {s : State} (h : Taken q s) {body : Device → Answered}
    {d : Device} (ha : body (validFrame s.dev) = accept d) :
    become s (whenUp (request q body) s.dev) = .next (s.replied q none .nothing d) :=
  request_answered h ha

/-! ### Reset and CUTOFF -/

/-- Settles O5: the state after reset is a literal, so each field is read off. -/
theorem resetLeaves : Obligations.ResetLeaves :=
  ⟨rfl, rfl, rfl, rfl, rfl, rfl, rfl, rfl, rfl, rfl, rfl, rfl, rfl, rfl, rfl, rfl, rfl, rfl, rfl⟩

theorem whenUp_cutoff {d : Device} (h : d.bau.watch = .cutoff) (f : Device → Device) :
    whenUp f d = d := if_pos h

/-- A command that waits for the part to be up leaves the state as it was in CUTOFF. -/
theorem up_in_cutoff {s : State} (h : s.dev.bau.watch = .cutoff) (f : Device → Device) :
    ∃ p : Pins, become s (whenUp f s.dev) = .next (s.put { s.dev with pins := p }) :=
  ⟨s.dev.pins, by rw [whenUp_cutoff h]; rfl⟩

/-- A command that moves a line first leaves the line moved in CUTOFF, and nothing else (log 20). -/
theorem line_in_cutoff {s : State} (h : s.dev.bau.watch = .cutoff) (f : Device → Device)
    {e : Device} {p : Pins} (moved : e = { s.dev with pins := p }) :
    ∃ p : Pins, become s (whenUp f e) = .next (s.put { s.dev with pins := p }) :=
  ⟨p, by rw [whenUp_cutoff (by rw [moved]; exact h), moved]; rfl⟩

/-- Settles O18: all commands but two wait for the part to be up, four of them behind a line's move. -/
theorem cutoffTakesNothing : Obligations.CutoffTakesNothing := by
  intro c s h power sample
  cases c with
  | powerOn => exact absurd rfl power
  | batterySample r => exact absurd rfl (sample r)
  | plungerEdge b =>
    exact line_in_cutoff h (setCondition .plunger b) (e := withPlunger b s.dev) rfl
  | electricBrakeAvailableEdge b =>
    exact line_in_cutoff h refreshBrakes (e := withEdbLine b s.dev) rfl
  | getRadio q p b =>
    exact line_in_cutoff h (request q (query .radio p (fun d => .radio (radioView d))))
      (e := withCarrier b s.dev) rfl
  | feedbackEdge ch b =>
    have moved : ∃ p, withContact ch b s.dev = { s.dev with pins := p } := by
      cases ch with
      | a => exact ⟨_, rfl⟩
      | b => exact ⟨_, rfl⟩
    obtain ⟨p, hp⟩ := moved
    exact line_in_cutoff h (feedbackEdge ch b) hp
  | _ => exact up_in_cutoff h _

/-! ### The requests of Mode Control -/

theorem askConfigure_good {r : CarConfig} {d : Device} (mode : d.mdc.mode = .preparation)
    (standstill : d.odu.standstill = true) (run : d.bau.run = none) :
    askConfigure r d = match firstBadField r with
      | some n => ⟨d, some .range, .fieldNumber n⟩
      | none => accept (configure r d) :=
  judged_accepted _ d (by simp [firstFailure, mode, standstill, run])

theorem askConfigure_accepted {r : CarConfig} {d : Device} (mode : d.mdc.mode = .preparation)
    (standstill : d.odu.standstill = true) (run : d.bau.run = none) (good : firstBadField r = none) :
    askConfigure r d = accept (configure r d) := by
  rw [askConfigure_good mode standstill run, good]

theorem askConfigure_badField {r : CarConfig} {n : Nat} {d : Device}
    (mode : d.mdc.mode = .preparation) (standstill : d.odu.standstill = true)
    (run : d.bau.run = none) (bad : firstBadField r = some n) :
    askConfigure r d = ⟨d, some .range, .fieldNumber n⟩ := by
  rw [askConfigure_good mode standstill run, bad]

theorem askEnterStabled_inService {d : Device} (mode : d.mdc.mode.inService = true)
    (standstill : d.odu.standstill = true) (secured : allSecured d = true) :
    askEnterStabled d = accept (changeMode .stabled d) := by
  have checks : firstFailure [(d.odu.standstill, .notStandstill), (allSecured d, .notAllowed)]
      = none := by simp [firstFailure, standstill, secured]
  unfold askEnterStabled
  split
  · exact judged_accepted _ d checks
  · exact judged_accepted _ d checks
  all_goals
    rename_i hm
    rw [hm] at mode
    cases mode

theorem askEnterStabled_waking {d : Device} (mode : d.mdc.mode = .waking) :
    askEnterStabled d = accept (changeMode .stabled (stopWake d)) := by
  rw [askEnterStabled, mode]

theorem askWake_stabled {d : Device} (mode : d.mdc.mode = .stabled) :
    askWake d = accept (changeMode .waking (startWake d)) := by rw [askWake, mode]

theorem askOrientation_accepted {v : Dir} {d : Device} (mode : d.mdc.mode = .preparation)
    (standstill : d.odu.standstill = true) :
    askOrientation (some v) d
      = accept (placeAgain { d with mdc := { d.mdc with orientation := some v } }) :=
  judged_accepted _ d (by simp [firstFailure, mode, standstill])

theorem askEnterService_accepted {d : Device} (h : firstFailure (serviceChecks d) = none) :
    askEnterService d = ⟨changeMode (serviceMode d) d, none, .modeEntered (serviceMode d)⟩ :=
  judged_accepted _ d h

theorem askEnterService_refused {d : Device} {r : Reason}
    (h : firstFailure (serviceChecks d) = some r) : askEnterService d = refuse r d :=
  judged_refused _ d h

theorem askEnterPreparation_accepted {d : Device} (standstill : d.odu.standstill = true) :
    askEnterPreparation d = accept (changeMode .preparation (stopWake d)) :=
  judged_accepted _ d (by simp [firstFailure, standstill])

theorem askRestart_accepted {d : Device} (standstill : d.odu.standstill = true) :
    askRestart d = accept { d with clp := { d.clp with restarting := true } } :=
  judged_accepted _ d (by simp [firstFailure, standstill])

/-- Settles O22: each request under its checks reaches its effect. -/
theorem modeRequestsComplete : Obligations.ModeRequestsComplete := by
  intro q s taken
  refine ⟨?_, ?_, ?_, ?_, ?_, ?_, ?_, ?_, ?_, ?_⟩
  · intro r mode standstill run good
    exact request_accepted taken (askConfigure_accepted mode standstill run good)
  · intro v mode standstill
    exact request_accepted taken (askOrientation_accepted mode standstill)
  · intro checks
    exact request_answered taken (askEnterService_accepted checks)
  · intro mode standstill secured
    exact request_accepted taken (askEnterStabled_inService mode standstill secured)
  · intro mode
    exact request_accepted taken (askEnterStabled_waking mode)
  · intro mode
    exact request_accepted taken (askWake_stabled mode)
  · intro standstill
    exact request_accepted taken (askEnterPreparation_accepted standstill)
  · intro standstill
    exact request_accepted taken (askRestart_accepted standstill)
  · exact request_taken taken askResetRecord
  · exact request_taken taken askClearResetRecord

/-- A refusal of ENTER_SERVICE by its first failing check. -/
theorem enterService_refused {q : Req} {s : State} {r : Reason} (taken : Taken q s)
    (h : firstFailure (serviceChecks (validFrame s.dev)) = some r) :
    exec (.enterService q) s = .next (s.replied q (some r) .nothing (validFrame s.dev)) :=
  request_answered taken (askEnterService_refused h)

/-- Settles O23: the earlier checks pass and the named one fails. -/
theorem enterServiceRefused : Obligations.EnterServiceRefused := by
  intro q s taken
  refine ⟨?_, ?_, ?_, ?_⟩
  · intro mode
    exact enterService_refused taken (by simp [serviceChecks, firstFailure, mode])
  · intro mode waking
    exact enterService_refused taken (by simp [serviceChecks, firstFailure, mode, waking])
  · intro mode config
    exact enterService_refused taken (by simp [serviceChecks, firstFailure, mode, config])
  · intro c mode config
    refine ⟨?_, ?_, ?_, ?_, ?_⟩
    · intro valid
      exact enterService_refused taken (by simp [serviceChecks, firstFailure, mode, config, valid])
    · intro valid orientation
      exact enterService_refused taken
        (by simp [serviceChecks, firstFailure, mode, config, valid, orientation])
    · intro valid orientation test
      have set := Option.isSome_iff_ne_none.mpr orientation
      exact enterService_refused taken
        (by simp [serviceChecks, firstFailure, mode, config, valid, set, test])
    · intro valid orientation test position
      have set := Option.isSome_iff_ne_none.mpr orientation
      have doubt : ((validFrame s.dev).odu.known
          && decide (uncertainty (validFrame s.dev) ≤ c.uMax)) = false := by
        rcases position with unknown | wide
        · rw [unknown, Bool.false_and]
        · rw [decide_eq_false (Nat.not_le.mpr wide), Bool.and_false]
      exact enterService_refused taken
        (by simp [serviceChecks, firstFailure, mode, config, valid, set, test, doubt])
    · intro valid orientation test known narrow moving
      have set := Option.isSome_iff_ne_none.mpr orientation
      exact enterService_refused taken
        (by simp [serviceChecks, firstFailure, mode, config, valid, set, test, known, narrow, moving])

/-! ### A refused record, and the wake timer -/

/-- What closes a command and its reply leaves Mode Control, the profile and the odometry alone. -/
theorem replied_keeps (s : State) (q : Req) (r : Option Reason) (x : ReplyData) (d : Device) :
    (s.replied q r x d).dev.mdc = d.mdc ∧ (s.replied q r x d).dev.prs = d.prs
      ∧ (s.replied q r x d).dev.odu = d.odu := by
  obtain ⟨b, v, c, h, -⟩ := finish_frame (reply q.tag r x d)
  rw [State.replied, State.put_dev, h]
  exact ⟨rfl, rfl, rfl⟩

/-- Settles O25: the first bad field refuses the record, and the frame alone has changed the part. -/
theorem configureCarRefused : Obligations.ConfigureCarRefused := by
  intro q s r n taken mode standstill run bad
  obtain ⟨mdc, prs, odu⟩ := replied_keeps s q (some .range) (.fieldNumber n) (validFrame s.dev)
  have heard := validFrame_keeps s.dev
  refine ⟨_, request_answered taken (askConfigure_badField mode standstill run bad), rfl, ?_, ?_, ?_⟩
  · rw [mdc, heard.mdc]
  · rw [prs, heard.prs]
  · rw [odu, heard.odu]

theorem updateRestrictions_staged (d : Device) : (updateRestrictions d).aru.staged = [] := by
  unfold updateRestrictions judgeRoom
  split
  · rw [(setCondition_keeps _ _ _).aru]
  · rfl

/-- Settles O27: a running timer stops and the update event precedes the change of mode. -/
theorem wakeTimerExpiry : Obligations.WakeTimerExpiry := by
  intro s up
  have run : exec .wakeTimerExpiry s = .next (s.put (finish (wakeExpires s.dev))) := by
    rw [← whenUp_up up]
    rfl
  refine ⟨fun running => ⟨?_, updateRestrictions_staged _⟩, fun stopped => ?_⟩
  · rw [run, wakeExpires, if_pos (Option.isSome_iff_ne_none.mpr running)]
  · rw [run, wakeExpires, if_neg (by simp [stopped])]

end Sys2Proof.Machine
end

section
/-! Power and the supply watch: O19 and O20. -/

namespace Sys2Proof.Machine

/-! ### What closes a command, at the ports -/

theorem linkPump_clp_of_eq {d e : Device} (h : e.clp = d.clp) :
    (linkPump e).clp = (linkPump d).clp := by
  unfold linkPump
  rw [h]
  split
  · exact h
  · split
    · rfl
    · split
      · rfl
      · exact h

theorem finish_clp (d : Device) : (finish d).clp = (linkPump d).clp :=
  linkPump_clp_of_eq ((radioPump_keeps_bus (busPump d)).2.2.trans (busPump_clp d))

theorem radioPump_link (d : Device) : (radioPump d).vru.link = d.vru.link := by
  unfold radioPump
  split
  · rfl
  · split
    · rfl
    · split <;> rfl

theorem finish_link (d : Device) : (finish d).vru.link = d.vru.link := by
  unfold finish
  rw [(linkPump_keeps_lines _).2.2, radioPump_link, busPump_vru]

/-- An idle link port with no reply waiting is given the oldest notice (R186). -/
theorem finish_notice {d : Device} {n : Notice} {l : List Notice} (tx : d.clp.tx = none)
    (replies : d.clp.replies = []) (notices : d.clp.notices = n :: l) :
    (finish d).clp = { d.clp with notices := l, tx := some (.notice n) } := by
  rw [finish_clp, linkPump, tx, replies, notices]

/-- What closes a command leaves Mode Control, the table, the brakes and all other blocks but the bus,
the radio and the link port. -/
theorem finish_blocks (d : Device) :
    (finish d).mdc = d.mdc ∧ (finish d).prs = d.prs ∧ (finish d).odu = d.odu
      ∧ (finish d).ssv = d.ssv ∧ (finish d).bdt = d.bdt ∧ (finish d).bau = d.bau
      ∧ (finish d).dcu = d.dcu ∧ (finish d).aru = d.aru := by
  obtain ⟨b, v, c, h, -⟩ := finish_frame d
  rw [h]
  exact ⟨rfl, rfl, rfl, rfl, rfl, rfl, rfl, rfl⟩

/-- Behind a blank port the first notice of a restart goes on the line, whatever is queued after it. -/
theorem finish_first_notice {x d : Device} (h : KeepsPorts x d) {n : Notice}
    (blank : x.clp = { blankClp with notices := [n] }) :
    ∃ l b, (finish d).clp = { blankClp with notices := l, lost := b, tx := some (.notice n) } := by
  obtain ⟨l, b, port⟩ := h.port
  rw [blank] at port
  refine ⟨l, b, ?_⟩
  rw [finish_notice (n := n) (l := l) (by rw [port]; rfl) (by rw [port]; rfl) (by rw [port]; rfl),
    port]

/-! ### The cold start on the line -/

/-- STARTED as a cold start gives it (R13, R15). -/
def coldNotice (d : Device) : Notice := .started d.bau.resetCause (d.bau.resetCause == .supply)

theorem coldBlocks_started_clp (d : Device) :
    (startedNotice (coldBlocks d)).clp = { blankClp with notices := [coldNotice d] } := rfl

/-- What a sample of 18.0 V or more leaves of a part in CUTOFF, its command closed. -/
theorem finish_coldStart (r : Nat) (o : Device) :
    let d := finish (coldStart r o)
    d.mdc = coldRecord o.bau.resetCause blankMdc ∧ d.prs = emptyPrs ∧ d.dcu = blankDcu
      ∧ d.aru = blankAru ∧ d.vru.link = .offline ∧ d.bdt.applied = .emergency ∧ d.bdt.hold = true
      ∧ d.bau.watch = (if r < 220 then .low else .normal) ∧ d.bau.reading = r
      ∧ d.clp.tx = some (.notice (coldNotice o)) := by
  obtain ⟨blocks, ports, restrained, watch, reading, -⟩ := coldStart_started r o
  obtain ⟨mdc, prs, -, -, bdt, bau, dcu, aru⟩ := finish_blocks (coldStart r o)
  obtain ⟨l, b, port⟩ := finish_first_notice ports (coldBlocks_started_clp o)
  have link : (coldStart r o).vru.link = .offline := by
    rw [ports.link, (startedNotice_queues _).ports.link]
    rfl
  intro d
  refine ⟨mdc.trans blocks.mdc, prs.trans blocks.prs, dcu.trans blocks.dcu, aru.trans blocks.aru,
    (finish_link _).trans link, ?_, ?_, ?_, ?_, congrArg Clp.tx port⟩
  · exact (congrArg Bdt.applied bdt).trans restrained.applied
  · exact (congrArg Bdt.hold bdt).trans restrained.hold
  · exact (congrArg Bau.watch bau).trans watch
  · exact (congrArg Bau.reading bau).trans reading

/-! ### The supply watch -/

theorem takeBatterySample_cutoff_low {r : Nat} {d : Device} (h : d.bau.watch = .cutoff)
    (hr : r < 180) : takeBatterySample r d = { d with bau := { d.bau with reading := r } } := by
  rw [takeBatterySample, if_pos h, if_neg (c := Config.cutoffEnds ≤ r) (Nat.not_le.mpr hr)]

theorem takeBatterySample_cutoff_ends {r : Nat} {d : Device} (h : d.bau.watch = .cutoff)
    (hr : 180 ≤ r) : takeBatterySample r d = finish (coldStart r d) := by
  rw [takeBatterySample, if_pos h]
  exact if_pos hr

theorem takeBatterySample_cutOff {r : Nat} {d : Device} (h : d.bau.watch ≠ .cutoff)
    (hr : r < 165) : takeBatterySample r d = cutOff r d := by
  rw [takeBatterySample, if_neg h, watchSample]
  exact if_pos hr

theorem takeBatterySample_first {r : Nat} {d : Device} (h : d.bau.watch ≠ .cutoff)
    (hr : 165 ≤ r) (first : d.bau.firstSample = true) :
    takeBatterySample r d = finish (judgeFirstSample r d) := by
  rw [takeBatterySample, if_neg h, watchSample,
    if_neg (c := r < Config.cutoffBelow) (Nat.not_lt.mpr hr), if_pos first]

theorem takeBatterySample_later {r : Nat} {d : Device} (h : d.bau.watch ≠ .cutoff)
    (hr : 165 ≤ r) (first : d.bau.firstSample = false) :
    takeBatterySample r d = finish (
      if d.bau.watch = .normal ∧ r < 210 then
        notify (.supply .low r) (setCondition .supplyLow true
          { d with bau := { d.bau with reading := r, watch := .low } })
      else if d.bau.watch = .low ∧ 220 ≤ r then
        notify (.supply .normal r) (setCondition .supplyLow false
          { d with bau := { d.bau with reading := r, watch := .normal } })
      else { d with bau := { d.bau with reading := r } }) := by
  rw [takeBatterySample, if_neg h, watchSample,
    if_neg (c := r < Config.cutoffBelow) (Nat.not_lt.mpr hr), first,
    if_neg Bool.false_ne_true]
  rfl

theorem exec_batterySample {r : Nat} {s : State} {d : Device} (h : takeBatterySample r s.dev = d) :
    exec (.batterySample r) s = .next (s.put d) := by
  rw [← h]
  rfl

/-- Settles O20: each threshold picks its branch of the sample. -/
theorem supplyWatch : Obligations.SupplyWatch := by
  intro s r
  refine ⟨fun up => ⟨fun low => ?_, fun hr first => ⟨fun low => ?_, fun high => ?_⟩,
    fun hr first normal low => ?_, fun high first low => ?_, fun first between => ?_⟩,
    fun off => ⟨fun low => ?_, fun high cause => ?_⟩⟩
  · exact ⟨_, exec_batterySample (takeBatterySample_cutOff up low), rfl,
      ⟨rfl, rfl, rfl, rfl, rfl, rfl⟩, ⟨rfl, rfl⟩, rfl, rfl, rfl, rfl, rfl, rfl, rfl, rfl, rfl⟩
  · exact exec_batterySample ((takeBatterySample_first up hr first).trans
      (congrArg finish (judgeFirstSample_low low _)))
  · exact exec_batterySample ((takeBatterySample_first up hr first).trans
      (congrArg finish (judgeFirstSample_normal high _)))
  · refine exec_batterySample ((takeBatterySample_later up hr first).trans ?_)
    rw [if_pos ⟨normal, low⟩]
  · refine exec_batterySample ((takeBatterySample_later up (by omega) first).trans ?_)
    rw [if_neg (by rw [low]; nofun), if_pos ⟨low, high⟩]
  · rcases between with ⟨normal, high⟩ | ⟨low, above, below⟩
    · refine exec_batterySample ((takeBatterySample_later up (by omega) first).trans ?_)
      rw [if_neg (by omega), if_neg (by rw [normal]; nofun)]
    · refine exec_batterySample ((takeBatterySample_later up above first).trans ?_)
      rw [if_neg (by rw [low]; nofun), if_neg (by omega)]
  · exact exec_batterySample (takeBatterySample_cutoff_low off low)
  · obtain ⟨mdc, prs, dcu, aru, link, applied, hold, watch, reading, tx⟩ :=
      finish_coldStart r s.dev
    rw [cause] at mdc
    refine ⟨_, exec_batterySample (takeBatterySample_cutoff_ends off high), ?_⟩
    rw [State.put_dev, mdc, tx, coldNotice, cause]
    exact ⟨rfl, rfl, rfl, rfl, rfl, prs, aru, dcu, link, applied, hold, watch, reading, rfl⟩

/-! ### MODE alone at EMERGENCY -/

/-- A part at start-up whose plunger is out: its table is lawful, its reactions stand at their defaults,
and no entry but MODE's is at EMERGENCY. -/
structure ModeAlone (d : Device) : Prop where
  restrained : Restrained d
  lawful : d.bdt.lawful
  plunger : d.bdt.present .plunger = false
  cfgLevel : ∀ e ∈ d.bdt.entries, e.cfgLevel = e.src.defaultLevel
  alone : ∀ e ∈ d.bdt.entries, e.level = .emergency → e.src = .mode

theorem ModeAlone.of_bdt {d e : Device} (h : ModeAlone d) (bdt : e.bdt = d.bdt)
    (restrained : Restrained e) : ModeAlone e := by
  obtain ⟨-, lawful, plunger, cfgLevel, alone⟩ := h
  rw [← bdt] at lawful plunger cfgLevel alone
  exact ⟨restrained, lawful, plunger, cfgLevel, alone⟩

theorem Queues.modeAlone {d e : Device} (h : Queues d e) (k : ModeAlone d) : ModeAlone e :=
  k.of_bdt h.bdt (h.restrained k.restrained)

theorem level_of_configured {e : Entry} (h : e.src.carriesLevel = false) (hl : e.level ≠ .none) :
    e.level = e.cfgLevel := by
  unfold Entry.level at hl ⊢
  split at hl
  · exact absurd rfl hl
  · exact absurd rfl hl
  all_goals rw [h]; rfl

/-- A configured-level event below EMERGENCY leaves MODE alone there. -/
theorem tableEvent_modeAlone {src : Source} (f : Entry → Entry) (hf : ∀ e, (f e).src = e.src)
    (hc : ∀ e, (f e).cfgLevel = e.cfgLevel) (hm : Source.mode ≠ src) (hp : Source.plunger ≠ src)
    (configured : src.carriesLevel = false) (mild : src.defaultLevel ≠ .emergency) {d : Device}
    (h : ModeAlone d) : ModeAlone (tableEvent (onEntry src f) d) := by
  obtain ⟨restrained, lawful, plunger, cfgLevel, alone⟩ := h
  refine ⟨tableEvent_restrained src f hf hm restrained, ?_, ?_, fun e he => ?_, fun e he hl => ?_⟩
  · rw [tableEvent_bdt]
    exact bdtAfter_lawful _ d
  · rw [(tableEvent_other src .plunger f hf hp d).present, plunger]
  · rw [tableEvent_entries] at he
    obtain ⟨x, hx, rfl⟩ := List.mem_map.mp he
    split
    · rw [hc, hf, cfgLevel x hx]
    · exact cfgLevel x hx
  · rw [tableEvent_entries] at he
    obtain ⟨x, hx, rfl⟩ := List.mem_map.mp he
    split at hl
    · rename_i hs
      have hs' := (hf x).trans hs
      have level := level_of_configured (e := f x) (by rw [hs', configured]) (by rw [hl]; nofun)
      rw [hl, hc, cfgLevel x hx, hs] at level
      exact absurd level.symm mild
    · rename_i hs
      rw [if_neg hs]
      exact alone x hx hl

theorem setCondition_modeAlone {src : Source} (hm : Source.mode ≠ src) (hp : Source.plunger ≠ src)
    (configured : src.carriesLevel = false) (mild : src.defaultLevel ≠ .emergency) (b : Bool)
    {d : Device} (h : ModeAlone d) : ModeAlone (setCondition src b d) := by
  have run := h.restrained.brakes.run
  unfold setCondition raise raiseWith clear
  rw [bdtEvent_of_idle _ d run, bdtEvent_of_idle _ d run]
  split
  · rw [if_neg (by simp [configured])]
    exact tableEvent_modeAlone _ (raiseEntry_src _) (raiseEntry_cfgLevel _) hm hp configured mild h
  · split
    · exact tableEvent_modeAlone _ clearEntry_src clearEntry_cfgLevel hm hp configured mild h
    · exact h

theorem setCondition_absent {src : Source} {d : Device} (h : d.bdt.present src = false) :
    setCondition src false d = d := by
  unfold setCondition
  rw [if_neg (by simp), if_neg (by simp [h])]

theorem startConditions_modeAlone {d : Device} (out : d.pins.plunger = false) (h : ModeAlone d) :
    ModeAlone (startConditions d) := by
  have placed : ModeAlone (setCondition .position (positionDoubtful d) d) :=
    setCondition_modeAlone (by decide) (by decide) rfl (by decide) _ h
  unfold startConditions
  dsimp only
  rw [(setCondition_keeps _ _ d).pins, out, setCondition_absent placed.plunger]
  exact setCondition_modeAlone (by decide) (by decide) rfl (by decide) _ placed

theorem judgeFirstSample_modeAlone (r : Nat) {d : Device} (h : ModeAlone d) :
    ModeAlone (judgeFirstSample r d) := by
  have read : ∀ w, ModeAlone (d.firstReading r w) := fun w =>
    h.of_bdt rfl (firstReading_restrained r w h.restrained)
  by_cases hr : r < 220
  · rw [judgeFirstSample_low hr]
    exact (notify_queues _ _).modeAlone
      (setCondition_modeAlone (by decide) (by decide) rfl (by decide) _ (read .low))
  · rw [judgeFirstSample_normal (Nat.not_lt.mp hr)]
    exact read .normal

theorem coldBlocks_modeAlone (o : Device) : ModeAlone (coldBlocks o) := by
  refine ⟨coldBlocks_restrained o, ⟨rfl, rfl, fun _ => rfl⟩, rfl, fun e he => ?_, fun e he hl => ?_⟩
  · obtain ⟨x, hx, rfl⟩ := List.mem_map.mp he
    obtain ⟨src, -, rfl⟩ := List.mem_map.mp hx
    rw [resetEntry_cfgLevel, resetEntry_src]
    rfl
  · by_contra hm
    have idle := (resetTable_other _ e he hm).1
    rw [Entry.level, idle] at hl
    cases hl

/-- With the plunger out a cold start leaves MODE governing (R92). -/
theorem coldStart_modeAlone (r : Nat) {o : Device} (out : o.pins.plunger = false) :
    ModeAlone (coldStart r o) := by
  have started := (startedNotice_queues (coldBlocks o)).modeAlone (coldBlocks_modeAlone o)
  have pins : (judgeFirstSample r (startedNotice (coldBlocks o))).pins.plunger = false := by
    obtain ⟨w, -, blocks, -⟩ := judgeFirstSample_cases r (startedNotice (coldBlocks o))
    rw [blocks.pins, ← out]
    exact congrArg Pins.plunger (notify_keeps _ _).pins
  rw [coldStart_eq]
  exact startConditions_modeAlone pins (judgeFirstSample_modeAlone r started)

theorem ModeAlone.governing {d : Device} (h : ModeAlone d) : d.bdt.governing = some .mode := by
  obtain ⟨applied, governing, -⟩ := h.lawful
  obtain ⟨⟨m, hm⟩, holds⟩ := h.restrained.table
  have level : appliedLevel d.bdt.entries = .emergency := applied.symm.trans h.restrained.applied
  rw [governing, governingSource, if_neg (by rw [level]; nofun), level]
  cases found : d.bdt.entries.find? (fun e => e.level == .emergency) with
  | none =>
    have none := List.find?_eq_none.mp found m (Bdt.mem_entriesOf.mp hm).1
    exact absurd (by rw [(holds m hm).2.2]; rfl) none
  | some e =>
    have at_ := List.find?_some found
    exact congrArg some (h.alone e (List.mem_of_find?_eq_some found) (by simpa using at_))

theorem finish_coldStart_governing (r : Nat) {o : Device} (out : o.pins.plunger = false) :
    (finish (coldStart r o)).bdt.governing = some .mode := by
  obtain ⟨-, -, -, -, bdt, -⟩ := finish_blocks (coldStart r o)
  rw [bdt]
  exact (coldStart_modeAlone r out).governing

/-- Settles O19: POWER_ON blanks the part, and the sample is a cold start with cause POWER_ON. -/
theorem powerOnStarts : Obligations.PowerOnStarts := by
  intro s
  refine ⟨rfl, fun r hr t ht => ?_⟩
  obtain rfl : s.put (blankDevice s.dev.now s.dev.pins) = t := Host.Outcome.next.inj ht
  obtain ⟨mdc, prs, dcu, aru, -, applied, hold, watch, -, tx⟩ :=
    finish_coldStart r (blankDevice s.dev.now s.dev.pins)
  have governing : s.dev.pins.plunger = false → _ :=
    finish_coldStart_governing r (o := blankDevice s.dev.now s.dev.pins)
  refine ⟨_, exec_batterySample (takeBatterySample_cutoff_ends (d := blankDevice _ _) rfl hr), ?_⟩
  rw [State.put_dev]
  generalize finish (coldStart r (blankDevice s.dev.now s.dev.pins)) = u at *
  rw [mdc]
  exact ⟨rfl, rfl, rfl, rfl, rfl, prs, dcu, aru, applied, hold, governing, watch, tx⟩

end Sys2Proof.Machine
end

section
/-! A change of mode and an accepted CONFIGURE_CAR: O24 and O26. -/

namespace Sys2Proof.Machine

/-! ### Doors, mode and position at the ports -/

theorem KeepsPorts.after {d e f : Device} (k : KeepsPorts e f) (h : KeepsPorts d e) :
    KeepsPorts d f := h.trans k

theorem setDoor_queues (n : DoorNo) (r : DoorRec) (d : Device) : Queues d (setDoor n r d) := by
  have written : Queues d { d with dcu := { d.dcu with doors := d.dcu.doors.set n r } } :=
    ⟨rfl, rfl, .of_eq rfl⟩
  unfold setDoor
  dsimp only
  split
  · exact written
  · exact written.trans (notify_queues _ _)

theorem eachDoor_queues (f : DoorNo → DoorRec → DoorRec) (d : Device) : Queues d (eachDoor f d) :=
  foldl_queues _ (fun x n => setDoor_queues n _ x) allDoors d

theorem withdrawRelease_queues (d : Device) : Queues d (withdrawRelease d) := by
  have released : Queues d { d with dcu := { d.dcu with release := none } } :=
    ⟨rfl, rfl, .of_eq rfl⟩
  unfold withdrawRelease
  split
  · exact .refl d
  · exact released.trans (eachDoor_queues _ _)

theorem judgeRelease_queues (d : Device) : Queues d (judgeRelease d) := by
  unfold judgeRelease
  split
  · exact .refl d
  · split
    · exact .refl d
    · exact withdrawRelease_queues d

theorem rollawayTest_works (d : Device) : Works d (rollawayTest d) := by
  unfold rollawayTest
  split
  · exact setCondition_works _ _ d
  · exact .refl d

theorem quietSupervisor_ports (d : Device) : KeepsPorts d (quietSupervisor d) := by
  have cleared := ((setCondition_works .overspeedSb false d).trans
    (setCondition_works .overspeedEb false _)).trans (setCondition_works .authority false _)
  unfold quietSupervisor
  dsimp only
  split
  · exact cleared.ports.trans (.of_eq rfl)
  · exact (notify_queues _ _).ports.after (cleared.ports.trans (.of_eq rfl))

theorem refreshModeEntry_works (d : Device) : Works d (refreshModeEntry d) := raiseWith_works _ _ _ d

/-- What a change of mode brings before the supervisor hears of it (R1). -/
def announceMode (d : Device) : Device := callPosition (modeNotice (setOutputs (refreshModeEntry d)))

theorem changeMode_eq (m : Mode) (d : Device) (h : d.mdc.mode ≠ m) :
    changeMode m d = rollawayTest (judgeRelease
      (if d.mdc.mode.supervised ∧ ¬ m.supervised then quietSupervisor (announceMode (d.inMode m))
       else announceMode (d.inMode m))) := by
  rw [changeMode, if_neg h]
  rfl

theorem announceMode_works (d : Device) : Works d (announceMode d) :=
  (((refreshModeEntry_works d).trans (setOutputs_works _)).trans (notify_queues _ _).works).trans
    (callPosition_queues _).works

theorem changeMode_ports (m : Mode) (d : Device) : KeepsPorts d (changeMode m d) := by
  by_cases h : d.mdc.mode = m
  · rw [changeMode, if_pos h]
    exact .refl d
  · have announced : KeepsPorts d (announceMode (d.inMode m)) :=
      (announceMode_works _).ports.after (.of_eq rfl)
    have closing : ∀ x, KeepsPorts x (rollawayTest (judgeRelease x)) := fun x =>
      (judgeRelease_queues x).ports.trans (rollawayTest_works _).ports
    rw [changeMode_eq m d h]
    split
    · exact (announced.trans (quietSupervisor_ports _)).trans (closing _)
    · exact announced.trans (closing _)

theorem reportCauses_ports (d : Device) : KeepsPorts d (reportCauses d) := by
  unfold reportCauses
  dsimp only
  split
  · exact .refl d
  · split
    · exact (notify_queues _ _).ports.after (.of_eq rfl)
    · exact (changeMode_ports _ _).after (.of_eq rfl)

theorem positionChanged_ports (d : Device) : KeepsPorts d (positionChanged d) :=
  ((setCondition_works _ _ d).ports.trans (reportCauses_ports _)).trans
    (judgeRelease_queues _).ports

theorem rackEntryTest_works (d : Device) : Works d (rackEntryTest d) := by
  unfold rackEntryTest
  split
  · exact .refl d
  · split
    · exact setCondition_works _ _ d
    · split
      · exact setCondition_works _ _ d
      · exact .refl d

theorem chooseSource_ports (d : Device) : KeepsPorts d (chooseSource d) := by
  unfold chooseSource
  dsimp only
  split
  · exact .refl d
  · exact .of_eq rfl

theorem meshChanged_ports (d : Device) : KeepsPorts d (meshChanged d) := by
  have cleared : KeepsPorts (chooseSource d) (clearShallow (chooseSource d)) := .of_eq rfl
  exact ((chooseSource_ports d).trans cleared).trans (rackEntryTest_works _).ports

theorem placeBogies_ports (d : Device) : KeepsPorts d (placeBogies d) := by
  have mapped : ∀ f, KeepsPorts d (mapBogies f d) := fun _ => .of_eq rfl
  unfold placeBogies
  dsimp only
  split
  · exact mapped _
  · exact (mapped _).trans (meshChanged_ports _)

theorem placeAgain_ports (d : Device) : KeepsPorts d (placeAgain d) :=
  (placeBogies_ports d).trans (positionChanged_ports _)

/-! ### The MODE entry at a change of mode -/

/-- An event on one source's entry is what it makes of that entry, whatever test it ends. -/
theorem bdtEvent_own {src : Source} (apart : src.apartFromTests) {f : Entry → Entry}
    {d : Device} {e : Entry}
    (he : e ∈ (bdtEvent (onEntry src f) d).bdt.entriesOf src) :
    ∃ x ∈ d.bdt.entriesOf src, e = f x := by
  rw [bdtEvent, abortIfEmergency_other apart] at he
  obtain ⟨mem, hs⟩ := Bdt.mem_entriesOf.mp he
  rw [tableEvent_entries] at mem
  obtain ⟨x, hx, rfl⟩ := List.mem_map.mp mem
  split at hs
  · rename_i h
    exact ⟨x, Bdt.mem_entriesOf.mpr ⟨hx, h⟩, if_pos h⟩
  · rename_i h
    exact absurd hs h

/-- What the MODE entry is between events: FLOW, and either IDLE or ACTIVE with its condition. -/
def Entry.isFlow (e : Entry) : Prop :=
  e.mode = .flow ∧ (e.state = .idle ∨ (e.state = .active ∧ e.cond = true))

theorem clearEntry_idle {e : Entry} (h : e.isFlow) : (clearEntry e).state = .idle := by
  obtain ⟨flow, idle | ⟨active, present⟩⟩ := h
  · unfold clearEntry
    split
    · simp [idle]
    · exact idle
  · simp [clearEntry, present, active, flow]

/-- A raise of a carried-level entry puts it in force at the carried level (R89). -/
theorem raiseEntry_carried {e : Entry} (r : Raise) (h : e.isFlow) (carries : e.src.carriesLevel = true) :
    (raiseEntry r e).state = .active ∧ (raiseEntry r e).level = r.level := by
  have other : e.src ≠ .passengerAlarm := by
    intro hs
    rw [hs] at carries
    cases carries
  obtain ⟨-, idle | ⟨active, -⟩⟩ := h
  · simp [raiseEntry, Entry.level, idle, other, carries]
  · simp [raiseEntry, Entry.level, active, carries]

theorem level_of_idle {e : Entry} (h : e.state = .idle) : e.level = .none := by
  rw [Entry.level, h]

/-- The MODE entry after Mode Control has told it the level of the mode (R2). -/
theorem refreshModeEntry_entry {d : Device} (h : ∀ e ∈ d.bdt.entriesOf .mode, e.isFlow) :
    ∀ e ∈ (refreshModeEntry d).bdt.entriesOf .mode,
      (modeLevel d.mdc = .none → e.state = .idle ∧ e.level = .none)
      ∧ (modeLevel d.mdc ≠ .none → e.state = .active ∧ e.level = modeLevel d.mdc) := by
  intro e he
  unfold refreshModeEntry raiseWith at he
  by_cases hl : modeLevel d.mdc = .none
  · rw [if_pos ⟨rfl, hl⟩] at he
    obtain ⟨x, hx, rfl⟩ := bdtEvent_own apart_mode he
    have idle := clearEntry_idle (h x hx)
    exact ⟨fun _ => ⟨idle, level_of_idle idle⟩, fun k => absurd hl k⟩
  · rw [if_neg fun k => hl k.2] at he
    obtain ⟨x, hx, rfl⟩ := bdtEvent_own apart_mode he
    refine ⟨fun k => absurd k hl, fun _ => raiseEntry_carried _ (h x hx) ?_⟩
    rw [(Bdt.mem_entriesOf.mp hx).2]
    rfl

theorem quietSupervisor_other {x : Source} (apart : x.apartFromTests)
    (hx : x ∉ [Source.overspeedSb, .overspeedEb, .authority]) (d : Device) :
    KeepsEntries x d (quietSupervisor d) := by
  simp only [List.mem_cons, List.not_mem_nil, or_false, not_or] at hx
  obtain ⟨hSb, hEb, hAuthority⟩ := hx
  have cleared := ((setCondition_other apart hSb false d).trans
    (setCondition_other apart hEb false _)).trans (setCondition_other apart hAuthority false _)
  unfold quietSupervisor
  dsimp only
  split
  · exact cleared.trans (.of_bdt rfl)
  · exact (cleared.trans (.of_bdt rfl)).trans (.of_bdt (notify_bdt _ _))

theorem rollawayTest_other {x : Source} (apart : x.apartFromTests) (d : Device) :
    KeepsEntries x d (rollawayTest d) := by
  unfold rollawayTest
  split
  · exact setCondition_other apart apart.1 _ d
  · exact .refl x d

/-- What follows the telling leaves the MODE entry alone. -/
theorem changeMode_entry (m : Mode) (d : Device) (h : d.mdc.mode ≠ m) :
    KeepsEntries .mode (refreshModeEntry (d.inMode m)) (changeMode m d) := by
  have announced : KeepsEntries .mode (refreshModeEntry (d.inMode m)) (announceMode (d.inMode m)) :=
    .of_bdt ((callPosition_bdt _).trans (notify_bdt _ _))
  have closing : ∀ x, KeepsEntries .mode x (rollawayTest (judgeRelease x)) := fun x =>
    (KeepsEntries.of_bdt (judgeRelease_queues x).bdt).trans (rollawayTest_other apart_mode _)
  rw [changeMode_eq m d h]
  split
  · exact (announced.trans (quietSupervisor_other apart_mode (by decide) _)).trans (closing _)
  · exact announced.trans (closing _)

/-- Settles O24: Mode Control tells the MODE entry the level of the new mode, and the rest leaves it. -/
theorem modeChangeSetsEntry : Obligations.ModeChangeSetsEntry := by
  intro m d changes flow
  have before : ∀ e ∈ (d.inMode m).bdt.entriesOf .mode, e.isFlow := fun e he =>
    flow e (Bdt.mem_entriesOf.mp he).1 (Bdt.mem_entriesOf.mp he).2
  refine ⟨(changeMode_quiet m d).mode.mode, fun e he hs => ?_⟩
  have told : e ∈ (refreshModeEntry (d.inMode m)).bdt.entriesOf .mode := by
    rw [← changeMode_entry m d changes]
    exact Bdt.mem_entriesOf.mpr ⟨he, hs⟩
  obtain ⟨idle, raised⟩ := refreshModeEntry_entry before e told
  refine ⟨fun serves => idle ?_, fun still => ?_, fun preparing => ?_⟩
  · cases m with
    | service => rfl
    | degraded => rfl
    | _ => cases serves
  · have level : modeLevel (d.inMode m).mdc = .full := by rcases still with rfl | rfl <;> rfl
    rw [level] at raised
    exact raised nofun
  · subst preparing
    have level : modeLevel (d.inMode .preparation).mdc
        = if d.mdc.config = none ∨ d.mdc.startUpHold = true then .emergency else .full := by
      change (if d.mdc.config.isNone || d.mdc.startUpHold then _ else _) = _
      simp only [Bool.or_eq_true, Option.isNone_iff_eq_none]
    rw [level] at raised
    exact raised (by split <;> nofun)

/-! ### CONFIGURE_CAR -/

theorem enterLink_offline_link (d : Device) : (linkActions .offline d).vru.link = .offline := by
  unfold linkActions
  dsimp only
  split <;> rfl

/-- A change of link state is the state its actions leave. -/
theorem linkTo_link (l : LinkState) (v : LinkEvent) (d : Device) :
    (linkTo l v d).vru.link = (linkActions l d).vru.link :=
  (((notify_queues _ _).ports.trans (setCondition_works _ _ _).ports).trans
    (reportCauses_ports _)).link

theorem linkFlagCleared_link (d : Device) : (linkFlagCleared d).vru.link = .offline := by
  unfold linkFlagCleared
  split
  · assumption
  · rw [linkTo_link, enterLink_offline_link]

theorem linkFlagCleared_keeps (d : Device) : KeepsMotion d (linkFlagCleared d) := by
  unfold linkFlagCleared
  split
  · exact .refl d
  · exact linkTo_keeps _ _ d

theorem configureSilence_keeps (c : CarConfig) (d : Device) :
    KeepsBlocks d (configureSilence c d) := by
  unfold configureSilence
  split
  · exact (setCondition_keeps _ _ _).after ⟨rfl, rfl, rfl, rfl, rfl, rfl, rfl, rfl, rfl, rfl⟩
  · split
    · exact ⟨rfl, rfl, rfl, rfl, rfl, rfl, rfl, rfl, rfl, rfl⟩
    · exact .refl d

theorem configureSilence_link (c : CarConfig) (d : Device) :
    (configureSilence c d).vru.link = d.vru.link := by
  unfold configureSilence
  split
  · exact (setCondition_works _ _ _).ports.link
  · split <;> rfl

/-- A choice of the source keeps the calibration, and no window begins. -/
theorem chooseSource_calibration (d : Device) : (chooseSource d).odu.calib = d.odu.calib
    ∧ (d.odu.window = none → (chooseSource d).odu.window = none) := by
  unfold chooseSource
  dsimp only
  split
  · exact ⟨rfl, id⟩
  · split <;> exact ⟨rfl, fun _ => rfl⟩

theorem meshChanged_calibration (d : Device) : (meshChanged d).odu.calib = d.odu.calib
    ∧ (d.odu.window = none → (meshChanged d).odu.window = none) := by
  rw [meshChanged, (rackEntryTest_keeps _).odu]
  exact chooseSource_calibration d

theorem placeBogies_calibration (d : Device) : (placeBogies d).odu.calib = d.odu.calib
    ∧ (d.odu.window = none → (placeBogies d).odu.window = none) := by
  unfold placeBogies
  dsimp only
  split
  · exact ⟨rfl, id⟩
  · exact meshChanged_calibration _

theorem placeAgain_calibration (d : Device) : (placeAgain d).odu.calib = d.odu.calib
    ∧ (d.odu.window = none → (placeAgain d).odu.window = none) := by
  rw [placeAgain, (positionChanged_keeps _).odu]
  exact placeBogies_calibration d

/-- Settles O26: the record, the link and the calibration are written first, and what follows keeps
them. -/
theorem configureCarEffect : Obligations.ConfigureCarEffect := by
  intro c d
  have settled := configure_settles c d
  have entered := refreshModeEntry_keeps (placeAgain ((linkFlagCleared (d.configured c)).calibrated c))
  have closed := entered.trans (configureSilence_keeps c _)
  have placed := placeAgain_keeps ((linkFlagCleared (d.configured c)).calibrated c)
  obtain ⟨calib, window⟩ := placeAgain_calibration ((linkFlagCleared (d.configured c)).calibrated c)
  rw [← configure_eq] at closed
  refine ⟨settled.records.profile.config, ?_, ?_, ?_, ?_, settled.records.profile.orientation,
    fun run => (settled.records.trial.idle run).2⟩
  · calc (configure c d).prs = (linkFlagCleared (d.configured c)).prs := closed.prs.trans placed.prs
      _ = { d.prs with valid := false } := (linkFlagCleared_keeps _).prs
  · calc (configure c d).vru.link
        = (placeAgain ((linkFlagCleared (d.configured c)).calibrated c)).vru.link := by
          rw [configure_eq, configureSilence_link, (refreshModeEntry_works _).ports.link]
      _ = (linkFlagCleared (d.configured c)).vru.link := (placeAgain_ports _).link
      _ = .offline := linkFlagCleared_link _
  · rw [closed.odu, calib]
    rfl
  · rw [closed.odu]
    exact window rfl

end Sys2Proof.Machine
end

section
/-! WARM_RESTART: O21. -/

namespace Sys2Proof.Machine

/-! ### The reactions through start-up -/

/-- A row of the reaction table with the source it is for (R86). -/
def Entry.row (e : Entry) := (e.src, e.cfgLevel, e.mode)

/-- The reactions, row by row, and the handle's fault (R86, R103). -/
def Bdt.reactions (t : Bdt) := (t.entries.map Entry.row, t.handleFaulty)

theorem tableEvent_reactions (src : Source) (f : Entry → Entry) (hs : ∀ e, (f e).src = e.src)
    (hc : ∀ e, (f e).cfgLevel = e.cfgLevel) (hm : ∀ e, (f e).mode = e.mode) (d : Device) :
    (tableEvent (onEntry src f) d).bdt.reactions = d.bdt.reactions := by
  have rows : (onEntry src f d.bdt.entries).map Entry.row = d.bdt.entries.map Entry.row := by
    rw [onEntry, List.map_map]
    refine List.map_congr_left fun e _ => ?_
    dsimp only [Function.comp]
    split
    · rw [Entry.row, hs, hc, hm, Entry.row]
    · rfl
  rw [tableEvent_bdt, Bdt.reactions, bdtAfter_entries, rows]
  rfl

/-- With no test running a condition leaves the reactions as they are. -/
theorem setCondition_idle_reactions (src : Source) (b : Bool) {d : Device} (run : d.bau.run = none) :
    (setCondition src b d).bdt.reactions = d.bdt.reactions := by
  have cleared := tableEvent_reactions src _ clearEntry_src clearEntry_cfgLevel clearEntry_mode d
  unfold setCondition raise raiseWith clear
  rw [bdtEvent_of_idle _ d run, bdtEvent_of_idle _ d run]
  split
  · split
    · exact cleared
    · exact tableEvent_reactions src _ (raiseEntry_src _) (raiseEntry_cfgLevel _)
        (raiseEntry_mode _) d
  · split
    · exact cleared
    · rfl

theorem startConditions_reactions {d : Device} (run : d.bau.run = none) :
    (startConditions d).bdt.reactions = d.bdt.reactions := by
  have run1 := ((setCondition_works .position (positionDoubtful d) d).trial.idle run).1
  have run2 := ((setCondition_works .plunger
    (setCondition .position (positionDoubtful d) d).pins.plunger _).trial.idle run1).1
  exact ((setCondition_idle_reactions _ _ run2).trans (setCondition_idle_reactions _ _ run1)).trans
    (setCondition_idle_reactions _ _ run)

theorem resetTable_reactions (l : List Entry) : (resetTable l).reactions
    = (l.map Entry.row, false) := by
  simp [Bdt.reactions, resetTable, Function.comp_def, Entry.row]

/-! ### The log-on at a warm restart -/

/-- The device with another link state and nothing else. -/
def Device.linked (d : Device) (l : LinkState) : Device := { d with vru := { d.vru with link := l } }

theorem KeepsPorts.linked {d e : Device} (h : KeepsPorts d e) (l : LinkState) :
    KeepsPorts (d.linked l) (e.linked l) :=
  ⟨rfl, h.dupWindow, h.ackList, h.silence, h.reportTimer, h.port⟩

theorem Queues.linked {d e : Device} (h : Queues d e) (l : LinkState) :
    Queues (d.linked l) (e.linked l) := ⟨h.bdt, h.bau, h.ports.linked l⟩

theorem KeepsBlocks.linked {d e : Device} (h : KeepsBlocks d e) (l : LinkState) :
    KeepsBlocks (d.linked l) (e.linked l) :=
  ⟨h.now, h.startAt, h.pins, h.mdc, h.prs, h.odu, h.ssv, h.dcu, h.dbm, h.aru⟩

theorem roomForLogon_queues (d : Device) : Queues d (roomForLogon d) := by
  unfold roomForLogon
  split
  · exact .refl d
  · split
    · exact dropQueuedReport_queues d
    · unfold dropOldestReport
      split
      · have dropped : ∀ n, Queues d (dropEntry n d) := fun _ => ⟨rfl, rfl, .of_eq rfl⟩
        exact (dropped _).trans (notify_queues _ _)
      · exact .refl d

theorem queueLogon_queues (d : Device) : Queues d (queueLogon d) := by
  have timed : ∀ (x : Device) (t : Option Timer) (p), Queues x
      { x with vru := { x.vru with logonTimer := t, lastLogon := p } } := fun _ _ _ =>
    ⟨rfl, rfl, .of_eq rfl⟩
  unfold queueLogon
  dsimp only
  split
  · exact ⟨rfl, rfl, .of_eq rfl⟩
  · exact ((roomForLogon_queues d).trans (appendEntry_queues _ _ _)).trans (timed _ _ _)

theorem reportCauses_told {d : Device}
    (h : causesNow d = (d.mdc.causePosition, d.mdc.causeRadio)) : reportCauses d = d := by
  unfold reportCauses
  exact if_pos h

/-- From OFFLINE, with RADIO_LOSS not present and the cause told, a log-on only queues (R152). -/
theorem linkTo_loggingOn {d : Device} (v : LinkEvent) (off : d.vru.link = .offline)
    (absent : d.bdt.present .radioLoss = false)
    (told : causesNow d = (d.mdc.causePosition, d.mdc.causeRadio)) :
    linkTo .loggingOn v d = notify (.radioLink .loggingOn v) (queueLogon (d.linked .loggingOn)) := by
  have queued := (queueLogon_queues (d.linked .loggingOn)).trans
    (notify_queues (.radioLink .loggingOn v) _)
  have kept := (queueLogon_keeps (d.linked .loggingOn)).trans
    (notify_keeps (.radioLink .loggingOn v) _)
  have acted : linkActions .loggingOn d = queueLogon (d.linked .loggingOn) := by
    unfold linkActions
    rw [off]
    rfl
  have quiet : (notify (.radioLink .loggingOn v) (queueLogon (d.linked .loggingOn))).bdt.present
      .radioLoss = false := by
    rw [queued.bdt]
    exact absent
  have same : causesNow (notify (.radioLink .loggingOn v) (queueLogon (d.linked .loggingOn)))
      = causesNow d := by
    rw [causesNow, causesNow, queued.bdt, queued.ports.link, off]
    rfl
  have calm : LinkState.loggingOn.radioLoss = false := rfl
  rw [linkTo, acted, calm, setCondition_absent quiet]
  refine reportCauses_told ?_
  rw [same, told, kept.mdc]
  rfl

/-! ### The part a warm restart leaves -/

/-- The link state a warm restart ends in (R167). -/
def restartLink (d : Device) : LinkState :=
  if d.mdc.config ≠ none ∧ d.prs.valid = true then .loggingOn else .offline

/-- The part once the conditions are found and the causes taken in. -/
def restartFound (d : Device) : Device := (startConditions (restartBegun d)).withCauses

theorem restartBegun_blocks (d : Device) :
    KeepsBlocks (restartMesh (restartBlocks d)) (startConditions (restartBegun d)) :=
  (restartBegun_keeps d).trans (startConditions_keeps _)

theorem withCauses_mdc {d : Device} {m : Mdc} (h : d.mdc = m) :
    d.withCauses.mdc = { m with
      causePosition := (causesNow d.withCauses).1, causeRadio := (causesNow d.withCauses).2 } := by
  subst h
  rfl

/-- The blocks once the causes are taken in: those of the restart but for the causes. -/
theorem restartFound_mdc (d : Device) : (restartFound d).mdc = { d.mdc with
    mode := .preparation, startUpHold := true, wakeTimer := none, lastCause := .restart,
    causePosition := (causesNow (restartFound d)).1, causeRadio := (causesNow (restartFound d)).2 } :=
  withCauses_mdc (restartBegun_blocks d).mdc

theorem restartFound_link (d : Device) : (restartFound d).vru.link = .offline :=
  (startConditions_works (restartBegun d)).ports.link.trans (restartBegun_queues d).ports.link

theorem restartBegun_idle (d : Device) : (restartBegun d).bau.run = none := by
  rw [(restartBegun_queues d).bau]
  rfl

/-- A source that start-up does not raise has the entry of the reset table. -/
theorem restartFound_entries {x : Source} (d : Device)
    (hx : x ∉ [Source.position, .plunger, .doorHold]) :
    (restartFound d).bdt.entriesOf x = (resetTable d.bdt.entries).entriesOf x := by
  have begun : KeepsEntries x (setOutputs (restartMesh (restartBlocks d))) (restartBegun d) :=
    .of_bdt (restartBegun_queues d).bdt
  exact begun.trans (startConditions_idle_other (restartBegun_idle d) hx)

theorem restartFound_radioLoss (d : Device) :
    (restartFound d).bdt.present .radioLoss = false := by
  rw [Bdt.present_eq, restartFound_entries d (by decide), List.any_eq_false]
  intro e he
  obtain ⟨mem, hs⟩ := Bdt.mem_entriesOf.mp he
  simpa using (resetTable_other _ e mem (by rw [hs]; nofun)).2

/-- What a warm restart queues behind start-up: its reports and the log-on (R14, R167). -/
theorem warmRestart_queues (d : Device) :
    Queues ((restartFound d).linked (restartLink d)) (warmRestart d)
      ∧ KeepsBlocks ((restartFound d).linked (restartLink d)) (warmRestart d) := by
  have queued := restartReports_queues d.mdc.mode (startConditions (restartBegun d))
  have kept := restartReports_keeps d.mdc.mode (startConditions (restartBegun d))
  have found : (startConditions (restartBegun d)).withCauses = restartFound d := rfl
  rw [found] at queued kept
  rw [warmRestart_eq]
  dsimp only
  generalize restartReports d.mdc.mode (startConditions (restartBegun d)) = x at queued kept
  have off : x.vru.link = .offline := queued.ports.link.trans (restartFound_link d)
  have both : bothValid x = true ↔ d.mdc.config ≠ none ∧ d.prs.valid = true := by
    have prs : (restartFound d).prs = d.prs := (restartBegun_blocks d).prs
    rw [bothValid, kept.mdc, kept.prs, restartFound_mdc, prs, Bool.and_eq_true,
      Option.isSome_iff_ne_none]
  have told : causesNow x = (x.mdc.causePosition, x.mdc.causeRadio) := by
    rw [causesNow, queued.bdt, queued.ports.link, kept.mdc]
    rfl
  by_cases valid : bothValid x = true
  · rw [if_pos valid, restartLink, if_pos (both.mp valid), linkTo_loggingOn _ off
      (by rw [queued.bdt]; exact restartFound_radioLoss d) told]
    exact ⟨((queued.linked _).trans (queueLogon_queues _)).trans (notify_queues _ _),
      ((kept.linked _).trans (queueLogon_keeps _)).trans (notify_keeps _ _)⟩
  · have same : (restartFound d).linked .offline = restartFound d := by
      rw [Device.linked, ← restartFound_link d]
    rw [if_neg valid, restartLink, if_neg fun k => valid (both.mpr k), same]
    exact ⟨queued, kept⟩

theorem restartBegun_restrained {d : Device} (h : d.bdt.ordered) : Restrained (restartBegun d) :=
  (restartBegun_queues d).restrained ⟨resetTable_modeHolds h, rfl, rfl,
    setOutputs_atRest rfl rfl rfl rfl rfl rfl⟩

/-- POSITION is found present exactly where the position is in doubt (R47, R60). -/
theorem restartFound_position {d : Device} (h : d.bdt.ordered) :
    (restartFound d).bdt.present .position = positionDoubtful (restartFound d) := by
  have ordered : (restartBegun d).bdt.ordered := by
    rw [(restartBegun_queues d).bdt]
    exact resetTable_ordered h
  have kept := startConditions_keeps (restartBegun d)
  have same : positionDoubtful (restartFound d) = positionDoubtful (restartBegun d) := by
    change positionDoubtful (startConditions (restartBegun d)) = _
    unfold positionDoubtful uncertainty
    rw [kept.odu, kept.mdc]
  exact (startConditions_position _ (ordered.mem .position)).trans same.symm

/-- The test record through a warm restart (R113). -/
theorem restartedTest_of_idle {b : Bau} (h : b.run = none) : restartedTest b = b.test := by
  rw [restartedTest, h]

theorem restartedTest_of_running {b : Bau} (h : b.run ≠ none) :
    (restartedTest b).result = .aborted ∧ (restartedTest b).endCause = some .restart := by
  cases run : b.run with
  | none => exact absurd run h
  | some r =>
    rw [restartedTest, run]
    exact ⟨rfl, rfl⟩

/-- What a warm restart leaves (R14, R86, R104, R122). -/
structure WarmRestarted (o d : Device) : Prop where
  blocks : KeepsBlocks ((restartFound o).linked (restartLink o)) d
  table : d.bdt = (restartFound o).bdt
  restrained : Restrained d
  supply : d.bau.firstSample = true
  test : d.bau.test = restartedTest o.bau
  ports : KeepsPorts ((restartBegun o).linked (restartLink o)) d

theorem Restrained.found {d : Device} (h : Restrained d) (l : LinkState) :
    Restrained (d.withCauses.linked l) :=
  ⟨h.table, h.applied, h.hold, h.brakes⟩

theorem KeepsPorts.found {d e : Device} (h : KeepsPorts d e) (l : LinkState) :
    KeepsPorts (d.linked l) (e.withCauses.linked l) :=
  ⟨rfl, h.dupWindow, h.ackList, h.silence, h.reportTimer, h.port⟩

theorem warmRestart_restarted {o : Device} (h : o.bdt.ordered) : WarmRestarted o (warmRestart o) := by
  obtain ⟨queued, kept⟩ := warmRestart_queues o
  have works := startConditions_works (restartBegun o)
  have rested := startConditions_restrained (restartBegun_restrained h)
  have begun := (restartBegun_queues o).bau
  have bau : (warmRestart o).bau = (startConditions (restartBegun o)).bau := queued.bau
  refine ⟨kept, queued.bdt, queued.restrained (rested.found _), ?_, ?_,
    (works.ports.found _).trans queued.ports⟩
  · rw [bau, works.trial.firstSample, begun]
    rfl
  · rw [bau, (works.trial.idle (restartBegun_idle o)).2, begun]
    rfl

/-! ### The restart on the line -/

/-- With an empty list of numbers to acknowledge the radio port's choice keeps the window and the timers. -/
theorem radioPump_ports {d : Device} (h : d.vru.ackList = []) : KeepsPorts d (radioPump d) := by
  unfold radioPump
  split
  · exact .refl d
  · split
    · rename_i waiting
      rw [h] at waiting
      cases waiting
    · split
      · exact .of_eq rfl
      · exact .refl d

theorem busPump_ports (d : Device) : KeepsPorts d (busPump d) :=
  .of_eq (by rw [Device.ports, Device.ports, busPump_vru, busPump_clp])

/-- The bus that a reset leaves begins with the first door (R142). -/
theorem finish_blank_bus {d : Device} (dbm : d.dbm = blankDbm) (dcu : d.dcu = blankDcu) :
    (finish d).dbm.links = blankDbm.links ∧ (finish d).dbm.turn = .d1 := by
  have pumped : (finish d).dbm = (busPump d).dbm :=
    (linkPump_keeps_lines _).1.trans (radioPump_keeps_bus _).1
  have first : (turnOrder blankDbm.turn).find? (inRotation d) = some .d1 := by
    have turns : inRotation d .d1 = true := by
      rw [inRotation, dcu]
      rfl
    exact List.find?_cons_of_pos turns
  have idle : d.dbm.trans = none := by rw [dbm]; rfl
  rw [pumped, busPump, idle, dbm]
  dsimp only
  rw [first]
  exact ⟨rfl, rfl⟩

theorem restartBegun_clp (d : Device) : (restartBegun d).clp
    = { blankClp with notices := [.started .restart d.mdc.supplyFlag] } := rfl

/-- What the two ports hold once a warm restart's command is closed (R167, R182, R190). -/
theorem finish_warmRestart_ports {o d : Device} (h : WarmRestarted o d) :
    (finish d).vru.link = restartLink o ∧ (finish d).vru.dupWindow = []
      ∧ (finish d).vru.ackList = [] ∧ (finish d).vru.silence = none
      ∧ (finish d).vru.reportTimer = none
      ∧ ∃ l b, (finish d).clp = { blankClp with
          notices := l, lost := b, tx := some (.notice (.started .restart o.mdc.supplyFlag)) } := by
  have begun := (restartBegun_queues o).ports.linked (restartLink o)
  have ports := begun.trans h.ports
  have pumped := (busPump_ports d).trans (radioPump_ports
    ((busPump_ports d).ackList.trans ports.ackList))
  have vru : (finish d).vru = (radioPump (busPump d)).vru := (linkPump_keeps_lines _).2.2
  rw [vru]
  exact ⟨pumped.link.trans ports.link, pumped.dupWindow.trans ports.dupWindow,
    pumped.ackList.trans ports.ackList, pumped.silence.trans ports.silence,
    pumped.reportTimer.trans ports.reportTimer, finish_first_notice h.ports (restartBegun_clp o)⟩

theorem restartIfAccepted_other {d : Device}
    (h : ∀ x, d.clp.tx = some (.reply x) → x.ofRestart = false) : restartIfAccepted d = d := by
  unfold restartIfAccepted
  split
  · rename_i x hx
    rw [h x hx]
    rfl
  · rfl

theorem restartIfAccepted_reply {d : Device} {x : Reply} (tx : d.clp.tx = some (.reply x))
    (h : x.ofRestart = true) : restartIfAccepted d = warmRestart d := by
  rw [restartIfAccepted, tx]
  exact if_pos h

theorem exec_warmRestart {s : State} (up : s.dev.bau.watch ≠ .cutoff) :
    exec .warmRestart s = .next (s.put (finish (restartIfAccepted s.dev))) := by
  rw [← whenUp_up up]
  rfl

/-! ### What a warm restart keeps and makes new -/

theorem positionDoubtful_congr {d e : Device} (odu : e.odu = d.odu)
    (config : e.mdc.config = d.mdc.config) : positionDoubtful e = positionDoubtful d := by
  unfold positionDoubtful uncertainty
  rw [odu, config]

theorem WarmRestarted.mdc {o d : Device} (h : WarmRestarted o d) (ordered : o.bdt.ordered) :
    d.mdc = { o.mdc with
      mode := .preparation, startUpHold := true, wakeTimer := none, lastCause := .restart,
      causeRadio := true, causePosition := positionDoubtful d } := by
  have same : d.mdc = (restartFound o).mdc := h.blocks.mdc
  have doubt : positionDoubtful d = (causesNow (restartFound o)).1 :=
    (positionDoubtful_congr h.blocks.odu (congrArg Mdc.config same)).trans
      (restartFound_position ordered).symm
  have radio : (causesNow (restartFound o)).2 = true := by
    rw [causesNow, restartFound_link]
    rfl
  have found := restartFound_mdc o
  rw [radio, ← doubt] at found
  exact same.trans found

/-- The causes and the link state apart, what follows start-up keeps the blocks that it left. -/
theorem KeepsBlocks.of_found {d e : Device} {l : LinkState}
    (h : KeepsBlocks (d.withCauses.linked l) e) :
    e.prs = d.prs ∧ e.odu = d.odu ∧ e.ssv = d.ssv ∧ e.dcu = d.dcu ∧ e.dbm = d.dbm
      ∧ e.aru = d.aru := ⟨h.prs, h.odu, h.ssv, h.dcu, h.dbm, h.aru⟩

/-- The blocks that a warm restart keeps whole or makes new whole, and the odometry record. -/
theorem WarmRestarted.others {o d : Device} (h : WarmRestarted o d) :
    d.prs = o.prs ∧ d.odu = { keptOdu o.odu with bogies := d.odu.bogies } ∧ d.ssv = ssvQuiet
      ∧ d.dcu = blankDcu ∧ d.dbm = blankDbm ∧ d.aru = blankAru := by
  obtain ⟨prs, odu, ssv, dcu, dbm, aru⟩ := h.blocks.of_found
  have begun := restartBegun_blocks o
  rw [prs, odu, ssv, dcu, dbm, aru, begun.prs, begun.odu, begun.ssv, begun.dcu, begun.dbm, begun.aru]
  exact ⟨rfl, rfl, rfl, rfl, rfl, rfl⟩

theorem WarmRestarted.reactions {o d : Device} (h : WarmRestarted o d) :
    d.bdt.reactions = (o.bdt.entries.map Entry.row, false) := by
  rw [h.table]
  refine (startConditions_reactions (restartBegun_idle o)).trans ?_
  rw [(restartBegun_queues o).bdt]
  exact resetTable_reactions o.bdt.entries

/-- MODE stands at EMERGENCY and all but the start-up raises are IDLE (R104). -/
theorem WarmRestarted.entries {o d : Device} (h : WarmRestarted o d) : ∀ e ∈ d.bdt.entries,
    (e.src = .mode → e.state = .active ∧ e.cond = true ∧ e.level = .emergency)
      ∧ (e.src ∉ [Source.mode, .position, .plunger, .doorHold] →
        e.state = .idle ∧ e.cond = false) := by
  intro e he
  refine ⟨fun hs => h.restrained.table.2 e (Bdt.mem_entriesOf.mpr ⟨he, hs⟩), fun hs => ?_⟩
  obtain ⟨notMode, notRaised⟩ := not_or.mp (mt List.mem_cons.mpr hs)
  have mem : e ∈ (restartFound o).bdt.entriesOf e.src :=
    Bdt.mem_entriesOf.mpr ⟨h.table ▸ he, rfl⟩
  rw [restartFound_entries o notRaised] at mem
  exact resetTable_other _ e (Bdt.mem_entriesOf.mp mem).1 notMode

/-- Channels at rest show the spring-applied pattern, without a timer or a fault (R122). -/
theorem Bau.AtRest.shows {d : Device} {u : Bau} (h : u.AtRest) (same : d.bau = u) :
    BothShow d .springApplied false .off ∧ u.channels.a.timer = none
      ∧ u.channels.b.timer = none ∧ u.anyFault = false := by
  obtain ⟨-, a, b, -, -, -⟩ := h
  unfold BothShow Bau.anyFault
  rw [same, a, b]
  exact ⟨⟨rfl, rfl, rfl, rfl, rfl, rfl⟩, rfl, rfl, rfl⟩

/-- Settles O21: the restart's blocks, with what start-up finds and queues behind them. -/
theorem warmRestartKeeps : Obligations.WarmRestartKeeps := by
  intro s up
  refine ⟨fun other => ?_, fun x tx accepted ordered => ?_⟩
  · rw [exec_warmRestart up, restartIfAccepted_other other]
  have restarted := warmRestart_restarted ordered
  refine ⟨_, (exec_warmRestart up).trans (by rw [restartIfAccepted_reply tx accepted]), ?_⟩
  rw [State.put_dev]
  generalize warmRestart s.dev = w at restarted
  obtain ⟨prs, odu, ssv, dcu, dbm, aru⟩ := restarted.others
  obtain ⟨mdc', prs', odu', ssv', bdt', bau', dcu', aru'⟩ := finish_blocks w
  obtain ⟨links, turn⟩ := finish_blank_bus dbm dcu
  obtain ⟨link, window, acks, silence, report, l, b, port⟩ := finish_warmRestart_ports restarted
  have doubt := positionDoubtful_congr odu' (congrArg Mdc.config mdc')
  generalize finish w = d at *
  dsimp only
  rw [doubt, mdc', prs', odu', ssv', bdt', bau', dcu', aru']
  obtain ⟨-, applied, hold, rest⟩ := restarted.restrained
  obtain ⟨rows, handle⟩ := Prod.mk.inj restarted.reactions
  obtain ⟨shows, timerA, timerB, fault⟩ := rest.shows bau'
  have tested : w.bau.test = restartedTest s.dev.bau := restarted.test
  exact ⟨restarted.mdc ordered, prs, odu, congrArg Odu.standstill odu, congrArg Odu.dir odu,
    congrArg Odu.speed odu, congrArg Odu.window odu, congrArg Odu.source odu, ssv, rows, hold,
    applied, handle, restarted.entries, shows, timerA, timerB, fault, rest.ebLine, rest.traction,
    rest.blend, rest.run, restarted.supply, fun idle => tested.trans (restartedTest_of_idle idle),
    fun running => tested ▸ restartedTest_of_running running, dcu, links, turn, link, window, acks,
    silence, report, aru, congrArg Clp.replies port, congrArg Clp.snapshot port,
    congrArg Clp.silence port, congrArg Clp.rx port, congrArg Clp.restarting port,
    congrArg Clp.tx port⟩

end Sys2Proof.Machine
end

section
/-! The car link: O59. -/

namespace Sys2Proof.Machine

/-! ### A frame taken apart -/

theorem dropLast_two {α : Type} (l : List α) (a b : α) : (l ++ [a, b]).dropLast.dropLast = l := by
  have split : l ++ [a, b] = (l ++ [a]) ++ [b] := by simp
  rw [split, List.dropLast_concat, List.dropLast_concat]

/-- The bytes between the start byte and the CRC of a frame. -/
def frameBody (kind tag : Byte) (payload : List Byte) : List Byte :=
  [BitVec.ofNat 8 payload.length, kind, tag] ++ payload

theorem carFrameBytes_eq (kind tag : Byte) (payload : List Byte) :
    carFrameBytes kind tag payload
      = 0xA5#8 :: (frameBody kind tag payload ++ bytes16 (crc16 (frameBody kind tag payload))) := rfl

theorem carFrameBytes_length (kind tag : Byte) (payload : List Byte) :
    (carFrameBytes kind tag payload).length = 6 + payload.length := by
  simp [carFrameBytes_eq, frameBody, bytes16]
  omega

/-- The CRC of a frame of the part fits (R183). -/
theorem crc16Fits_carFrameBytes (kind tag : Byte) (payload : List Byte) :
    crc16Fits (carFrameBytes kind tag payload) = true := by
  have body : ((carFrameBytes kind tag payload).drop 1).dropLast.dropLast
      = frameBody kind tag payload := dropLast_two _ _ _
  have tail : (carFrameBytes kind tag payload).drop ((carFrameBytes kind tag payload).length - 2)
      = bytes16 (crc16 (frameBody kind tag payload)) := by
    have length : (carFrameBytes kind tag payload).length - 2
        = (0xA5#8 :: frameBody kind tag payload).length := by
      rw [carFrameBytes_length]
      simp [frameBody]
      omega
    rw [length]
    exact List.drop_left
  rw [crc16Fits, body, tail]
  exact beq_self_eq_true _

theorem framePayload_carFrameBytes (kind tag : Byte) (payload : List Byte) :
    framePayload (carFrameBytes kind tag payload) = payload := dropLast_two payload _ _

theorem assemble_nil (shape : FrameShape) (fuel : Nat) : assemble shape fuel [] = ([], []) := by
  cases fuel <;> rfl

/-- The bytes of one frame are assembled to it, and nothing stays in assembly (R183). -/
theorem assemble_carFrameBytes (kind tag : Byte) {payload : List Byte} (short : payload.length ≤ 60)
    (fuel : Nat) : assemble carFrame (fuel + 1) (carFrameBytes kind tag payload)
      = ([carFrameBytes kind tag payload], []) := by
  have length := carFrameBytes_length kind tag payload
  have start : (carFrameBytes kind tag payload).dropWhile (fun b => b != carFrame.start)
      = carFrameBytes kind tag payload := rfl
  have said : (carFrameBytes kind tag payload)[carFrame.lengthAt]?
      = some (BitVec.ofNat 8 payload.length) := rfl
  have number : (BitVec.ofNat 8 payload.length).toNat = payload.length := by
    rw [BitVec.toNat_ofNat]
    omega
  have whole : carFrame.overhead + payload.length = (carFrameBytes kind tag payload).length :=
    length.symm
  rw [assemble]
  dsimp only
  rw [start, said]
  dsimp only
  rw [number, whole, if_neg (c := payload.length > carFrame.maxLength) (Nat.not_lt.mpr short),
    if_neg (Nat.lt_irrefl _), List.drop_length, List.take_length, assemble_nil]

theorem assembled_carFrameBytes {bytes payload : List Byte} {kind tag : Byte} {d : Device}
    (short : payload.length ≤ 60)
    (whole : inAssembly d.clp.rx ++ bytes = carFrameBytes kind tag payload) :
    assembled bytes d = ([carFrameBytes kind tag payload], []) := by
  rw [assembled, whole]
  exact assemble_carFrameBytes kind tag short _

theorem assemblyAfter_nil (before : Option (List Byte × Nat)) (bytes : List Byte) (now : Nat) :
    assemblyAfter before bytes [] now = none := by
  unfold assemblyAfter
  exact if_pos rfl

/-- Bytes that complete a valid frame have its request taken (R183, R185). -/
theorem takeLinkBytes_carFrameBytes {bytes payload : List Byte} {kind tag : Byte} {d : Device}
    (short : payload.length ≤ 60)
    (whole : inAssembly d.clp.rx ++ bytes = carFrameBytes kind tag payload) :
    takeLinkBytes bytes d = finish
      (request ⟨tag, requestFits kind.toNat payload⟩ (requestBody kind.toNat payload) d) := by
  have once := assembled_carFrameBytes short whole
  have valid : validFrames bytes d = [carFrameBytes kind tag payload] := by
    rw [validFrames, once]
    exact List.filter_cons_of_pos (crc16Fits_carFrameBytes kind tag payload)
  have dropped : keepAssembly bytes d = dropFrame d := by
    rw [keepAssembly, once, assemblyAfter_nil]
    rfl
  rw [takeLinkBytes_of_one bytes _ d valid, dropped, takeFrame, framePayload_carFrameBytes]
  rfl

/-! ### The requests and events of the link -/

/-- A valid frame adds no reply of its own. -/
theorem validFrame_replies (d : Device) : (validFrame d).clp.replies = d.clp.replies :=
  (setCondition_works .linkSilent false _).ports.replies

/-- Without room in the reply list a request is heard and no more (R185). -/
theorem request_full {d : Device} (full : replyRoom ≤ d.clp.replies.length) (q : Req)
    (body : Device → Answered) : request q body d = validFrame d := by
  rw [request, answerFrame, if_pos (.inr (by rw [validFrame_replies]; exact full))]

/-- A request of the wrong length that would be taken at the right one. -/
theorem request_badLength {tag : Byte} {s : State} (h : Taken ⟨tag, true⟩ s)
    (body : Device → Answered) :
    become s (whenUp (request ⟨tag, false⟩ body) s.dev) =
      .next (s.replied ⟨tag, false⟩ (some .badLength) .nothing (validFrame s.dev)) := by
  obtain ⟨up, restarting, room, -⟩ := h
  rw [whenUp_up up, request, answerFrame, if_neg (by simp [restarting, room]),
    if_neg Bool.false_ne_true]
  rfl

theorem linkSilenceExpires_running {d : Device} (h : d.clp.silence ≠ none) :
    linkSilenceExpires d =
      setCondition .linkSilent true { d with clp := { d.clp with silence := none } } := by
  unfold linkSilenceExpires
  exact if_pos (Option.isSome_iff_ne_none.mpr h)

theorem linkSilenceExpires_stopped {d : Device} (h : d.clp.silence = none) :
    linkSilenceExpires d = d := by
  unfold linkSilenceExpires
  exact if_neg (by simp [h])

theorem frameEnd_other {d : Device} (h : ∀ r, d.clp.tx = some (.reply r) → r.ofRestart = false) :
    frameEnd d = freeTransmitter d := by
  unfold frameEnd
  split
  · rename_i r hr
    rw [h r hr]
    rfl
  · rfl

theorem frameEnd_restart {d : Device} {r : Reply} (tx : d.clp.tx = some (.reply r))
    (h : r.ofRestart = true) : frameEnd d = warmRestart d := by
  rw [frameEnd, tx]
  exact if_pos h

/-- A command that waits for the part to be up, in a part that is. -/
theorem become_up {s : State} (up : s.dev.bau.watch ≠ .cutoff) {f : Device → Device} {d : Device}
    (h : f s.dev = d) : become s (whenUp f s.dev) = .next (s.put (finish d)) := by
  rw [whenUp_up up, h]
  rfl

/-! ### Frames of the part and reason codes -/

/-- The reasons in the order of their codes (R185). -/
def allReasons : List Reason :=
  [.unknownKind, .badLength, .range, .wrongMode, .notStandstill, .busy, .notConfigured, .noProfile,
   .checkFailed, .conditionPresent, .notHeld, .notAllowed, .full, .notFound, .platform,
   .brakesNotApplied, .orientationUnset, .testNotPassed, .positionUnknown]

theorem mem_allReasons (a : Reason) : a ∈ allReasons := by cases a <;> decide

theorem code_range : ∀ a ∈ allReasons, 1 ≤ a.code.toNat ∧ a.code.toNat ≤ 19 := by decide

theorem code_injective {a b : Reason} (h : a.code = b.code) : a = b := by
  have distinct : (allReasons.map Reason.code).Nodup := by decide
  exact List.inj_on_of_nodup_map distinct (mem_allReasons a) (mem_allReasons b) h

theorem notice_length (n : Notice) : (Frame.notice n).bytes.length ≤ 66 := by
  have short : n.bytes.length ≤ 59 := List.length_take_le _ _
  rw [Frame.bytes, carFrameBytes_length, List.length_cons]
  omega

theorem crc16Fits_frame (f : Frame) : crc16Fits f.bytes = true := by
  cases f <;> exact crc16Fits_carFrameBytes _ _ _

/-- Settles O59: the link's commands by what each waits for, its frames byte by byte. -/
theorem linkCommandsComplete : Obligations.LinkCommandsComplete := by
  refine ⟨fun s up => ⟨?_, ?_, ?_, ?_, ?_, ?_, ?_, ?_, ?_, ?_, ?_, ?_⟩, fun f => ?_, fun a =>
    ⟨(code_range a (mem_allReasons a)).1, (code_range a (mem_allReasons a)).2,
      fun _ => code_injective⟩⟩
  · intro q taken
    exact request_taken taken askStatus
  · intro tag kind taken
    exact request_taken taken (refuse .unknownKind)
  · intro tag taken
    exact request_badLength taken askStatus
  · intro q full
    exact become_up up (request_full full q askStatus)
  · intro bytes
    exact become_up up (f := takeLinkBytes bytes) rfl
  · intro bytes none
    exact ⟨_, become_up up (takeLinkBytes_of_none bytes s.dev none)⟩
  · intro bytes kind tag payload short whole
    have taken := become_up up (takeLinkBytes_carFrameBytes short whole)
    rw [finish_finish] at taken
    exact taken
  · exact become_up up (f := dropFrame) rfl
  · intro running
    exact become_up up (linkSilenceExpires_running running)
  · intro stopped
    exact become_up up (linkSilenceExpires_stopped stopped)
  · intro other
    exact become_up up (frameEnd_other other)
  · intro r tx accepted
    exact become_up up (frameEnd_restart tx accepted)
  · refine ⟨crc16Fits_frame f, ?_, ?_, ?_⟩
    · cases f <;> rfl
    · rintro r rfl
      refine ⟨rfl, rfl, ?_⟩
      cases hr : r.reason <;> simp [Frame.bytes, carFrameBytes, outcomeByte, hr]
    · rintro n rfl
      exact ⟨rfl, rfl, rfl, notice_length n⟩

end Sys2Proof.Machine
end

section
/-! The line that a profile describes, with its limits, its braking capability and its extents: O32, O33
and O34. -/

namespace Sys2Proof.Machine

/-! ### The limits of a segment -/

theorem min_isLeast_pair (a b : Nat) : min a b ∈ [a, b] ∧ ∀ v ∈ [a, b], min a b ≤ v := by
  simp [le_total]

theorem min_isLeast_triple (a b c : Nat) :
    min (min a b) c ∈ [a, b, c] ∧ ∀ v ∈ [a, b, c], min (min a b) c ≤ v := by
  constructor
  · simp only [List.mem_cons, List.not_mem_nil, or_false]
    omega
  · simp

/-- Settles O33: by the kind of the segment, a minimum of two values or of three. -/
theorem effectiveLimitIsLeast : Obligations.EffectiveLimitIsLeast := by
  intro c g dir
  unfold effectiveLimit
  cases g.kind with
  | rack => exact min_isLeast_pair _ _
  | rackEntry => exact min_isLeast_triple _ _ _
  | adhesion => exact min_isLeast_pair _ _

theorem gravityPull_eq (m : Nat) : gravityPull m = (m * 981 + 99) / 100 := rfl

theorem capable_iff (aSb : Nat) (g : Segment) :
    capable aSb g = true ↔ gravityPull g.gradient.toInt.natAbs + 300 ≤ aSb := decide_eq_true_iff

/-- Settles O34: the rounding of `gravityPull_eq`, and the margin of `capable_iff` as a difference. -/
theorem brakingCapability : Obligations.BrakingCapability := by
  intro aSb g
  have rounded := gravityPull_eq g.gradient.toInt.natAbs
  refine ⟨by omega, by omega, ?_⟩
  rw [capable_iff]
  omega

/-! ### The extents of the segments -/

/-- A check that goes on under a condition and else names a failure finds none exactly when the condition
holds and it finds none further on. -/
theorem ite_some_eq_none {α : Type} {b : Bool} {p : Prop} (h : b = true ↔ p) {x : Option α} {i : α} :
    (if b then x else some i) = none ↔ p ∧ x = none := by
  rw [← h]
  cases b <;> simp

/-- Check 2 asks of a segment behind another that it starts behind it and on the line (R28). -/
theorem badStart_cons {lineLength i p : Nat} {g : Segment} {rest : List Segment} :
    badStart lineLength i (some p) (g :: rest) = none ↔
      (p < g.start.toNat ∧ g.start.toNat < lineLength)
        ∧ badStart lineLength (i + 1) (some g.start.toNat) rest = none :=
  ite_some_eq_none (by simp)

/-- Check 2 asks of the first segment that it starts at 0, on the line (R28). -/
theorem badStart_first {lineLength i : Nat} {g : Segment} {rest : List Segment} :
    badStart lineLength i none (g :: rest) = none ↔
      (g.start.toNat = 0 ∧ g.start.toNat < lineLength)
        ∧ badStart lineLength (i + 1) (some g.start.toNat) rest = none :=
  ite_some_eq_none (by simp)

/-- Behind check 2 no extent begins in front of the first segment's start. -/
theorem start_le_lo {lineLength : Nat} {rest : List Segment} {g : Segment} {i : Nat}
    (ordered : badStart lineLength i (some g.start.toNat) rest = none) :
    ∀ x ∈ extentsOf lineLength (g :: rest), g.start.toNat ≤ x.lo := by
  induction rest generalizing g i with
  | nil =>
    intro x hx
    obtain rfl := List.mem_singleton.mp hx
    exact le_rfl
  | cons h rest ih =>
    obtain ⟨⟨behind, -⟩, later⟩ := badStart_cons.mp ordered
    intro x hx
    rcases List.mem_cons.mp hx with rfl | hx
    · exact le_rfl
    · exact behind.le.trans (ih later x hx)

/-- Whether an extent holds a chainage. -/
def Extent.holds (x : Extent) (c : Nat) : Prop := x.lo ≤ c ∧ c ≤ x.hi

/-- From the first start to the line's end each chainage lies in exactly one extent: in the first one up
to the start behind it, in one of the later ones from there on. -/
theorem exists_unique_extent {lineLength c : Nat} {rest : List Segment} {g : Segment} {i : Nat}
    (ordered : badStart lineLength i (some g.start.toNat) rest = none)
    (from_start : g.start.toNat ≤ c) (to_end : c ≤ lineLength) :
    ∃ x ∈ extentsOf lineLength (g :: rest), x.holds c
      ∧ ∀ y ∈ extentsOf lineLength (g :: rest), y.holds c → y = x := by
  induction rest generalizing g i with
  | nil =>
    exact ⟨_, List.mem_singleton.mpr rfl, ⟨from_start, to_end⟩,
      fun y hy _ => List.mem_singleton.mp hy⟩
  | cons h rest ih =>
    obtain ⟨⟨behind, -⟩, later⟩ := badStart_cons.mp ordered
    by_cases before : c < h.start.toNat
    · refine ⟨_, List.mem_cons_self, ⟨from_start, Nat.le_sub_one_of_lt before⟩, fun y hy held => ?_⟩
      rcases List.mem_cons.mp hy with rfl | hy
      · rfl
      · exact absurd ((start_le_lo later y hy).trans held.1) (Nat.not_le.mpr before)
    · obtain ⟨x, hx, held, only⟩ := ih later (Nat.not_lt.mp before)
      refine ⟨x, List.mem_cons_of_mem _ hx, held, fun y hy held => ?_⟩
      rcases List.mem_cons.mp hy with rfl | hy
      · have upto : c ≤ h.start.toNat - 1 := held.2
        omega
      · exact only y hy held

/-- The search of `segmentAt` finds the one extent that holds a chainage of the line. -/
theorem segmentAt_of_unique {p : Profile} {c : Nat} {x : Extent} (on_line : c ≤ p.lineLength.toNat)
    (mem : x ∈ p.extents) (held : x.holds c) (only : ∀ y ∈ p.extents, y.holds c → y = x) :
    p.segmentAt c = some x.seg := by
  have on : (0 : Int) ≤ c ∧ (c : Int) ≤ (p.lineLength.toNat : Int) := by omega
  have holds_iff : ∀ y : Extent,
      (decide ((y.lo : Int) ≤ c) && decide ((c : Int) ≤ (y.hi : Int))) = true ↔ y.holds c := by
    simp [Extent.holds]
  rw [Profile.segmentAt, if_pos on]
  cases found : p.extents.find? _ with
  | none => exact absurd ((holds_iff x).mpr held) (List.find?_eq_none.mp found x mem)
  | some y =>
    have here := List.find?_some found
    rw [only y (List.mem_of_find?_eq_some found) ((holds_iff y).mp here)]
    rfl

/-- Settles O32: the extent of `exists_unique_extent` from chainage 0 on, where the first segment
starts, and the bounds that `segmentAt` asks for first. -/
theorem extentsPartitionTheLine : Obligations.ExtentsPartitionTheLine := by
  intro p filled ordered
  refine ⟨fun c on_line => ?_, fun c off => if_neg (by omega)⟩
  obtain ⟨g, rest, segments⟩ := List.exists_cons_of_ne_nil filled
  rw [segments] at ordered
  obtain ⟨⟨start, -⟩, later⟩ := badStart_first.mp ordered
  obtain ⟨x, mem, held, only⟩ := exists_unique_extent later (start.trans_le (Nat.zero_le c)) on_line
  rw [← segments] at mem only
  exact ⟨x, mem, held.1, held.2, segmentAt_of_unique on_line mem held only,
    fun y hy lo hi => only y hy ⟨lo, hi⟩⟩

end Sys2Proof.Machine
end

section
/-! The requests of the Profile Store: O28 to O31. -/

namespace Sys2Proof.Machine

/-! ### Slots of a load table -/

theorem slot_cons {α : Type} (s : Nat × α) (rest : List (Nat × α)) (i : Nat) :
    slot (s :: rest) i = if s.1 = i then some s.2 else slot rest i := by
  by_cases h : s.1 = i <;> simp [slot, h]

theorem slot_putSlot_same {α : Type} (i : Nat) (x : α) (table : List (Nat × α)) :
    slot (putSlot i x table) i = some x := by
  induction table with
  | nil => exact (slot_cons _ _ i).trans (if_pos rfl)
  | cons s rest ih =>
    unfold putSlot
    split
    · exact (slot_cons _ _ i).trans (if_pos rfl)
    · split
      · exact (slot_cons _ _ i).trans (if_pos rfl)
      · rename_i apart
        rw [slot_cons, if_neg (Ne.symm apart), ih]

theorem slot_putSlot_other {α : Type} {i j : Nat} (x : α) (table : List (Nat × α)) (h : j ≠ i) :
    slot (putSlot i x table) j = slot table j := by
  have skipped : ∀ rest : List (Nat × α), slot ((i, x) :: rest) j = slot rest j := fun rest =>
    (slot_cons _ rest j).trans (if_neg h.symm)
  induction table with
  | nil => exact skipped []
  | cons s rest ih =>
    unfold putSlot
    split
    · exact skipped _
    · split
      · rename_i own
        rw [skipped, slot_cons, if_neg (own ▸ h.symm)]
      · rw [slot_cons, slot_cons, ih]

/-- Settles O29: the slot's own record is read back, every other one as it was, and the form is that of
`putSlot_wf`. -/
theorem loadFillsOneSlot : Obligations.LoadFillsOneSlot := by
  intro α room i x table below canonical
  exact ⟨putSlot_wf room i x below table canonical, slot_putSlot_same i x table,
    fun j apart => slot_putSlot_other x table apart⟩

/-! ### Load requests -/

theorem askLoadLine_accepted (l : BitVec 24) (v : BitVec 32) {d : Device}
    (mode : d.mdc.mode = .preparation) :
    askLoadLine l v d = accept (withLoad (fun a => { a with lineLength := l, version := v }) d) :=
  judged_accepted _ d (by simp [firstFailure, inPreparation, mode])

theorem askLoadSegment_accepted {i : Byte} {r : SegmentBytes} {g : Segment} {d : Device}
    (mode : d.mdc.mode = .preparation) (good : segmentOf r = some g) :
    askLoadSegment i r d =
      accept (withLoad (fun a => { a with segments := putSlot i.toNat g a.segments }) d) := by
  rw [askLoadSegment, judged_accepted _ d (by simp [firstFailure, inPreparation, mode]), good]

theorem askLoadStation_accepted {i : Byte} {r : StationBytes} {g : Station} {d : Device}
    (mode : d.mdc.mode = .preparation) (room : i.toNat < 32) (good : stationOf r = some g) :
    askLoadStation i r d =
      accept (withLoad (fun a => { a with stations := putSlot i.toNat g a.stations }) d) := by
  rw [askLoadStation,
    judged_accepted _ d (by simp [firstFailure, inPreparation, mode, room]), good]

theorem askLoadMarker_accepted {i : Byte} {r : MarkerRec} {d : Device}
    (mode : d.mdc.mode = .preparation) (room : i.toNat < 128) (good : markerAccepted r = true) :
    askLoadMarker i r d =
      accept (withLoad (fun a => { a with markers := putSlot i.toNat r a.markers }) d) :=
  judged_accepted _ d (by simp [firstFailure, inPreparation, mode, room, good])

theorem askClearLoad_accepted {d : Device} (mode : d.mdc.mode = .preparation) :
    askClearLoad d = accept (withLoad (fun _ => emptyLoad) d) :=
  judged_accepted _ d (by simp [firstFailure, inPreparation, mode])

/-- Settles O28: each request under its checks rewrites its part of the load area. -/
theorem loadRequestsComplete : Obligations.LoadRequestsComplete := by
  intro q s taken mode
  refine ⟨?_, ?_, ?_, ?_, ?_⟩
  · intro l v
    exact request_accepted taken (askLoadLine_accepted l v mode)
  · intro i r g good
    exact request_accepted taken (askLoadSegment_accepted mode good)
  · intro i r g room good
    exact request_accepted taken (askLoadStation_accepted mode room good)
  · intro i r room good
    exact request_accepted taken (askLoadMarker_accepted mode room good)
  · exact request_accepted taken (askClearLoad_accepted mode)

/-! ### COMMIT_PROFILE -/

theorem askCommit_failed {d : Device} {n : Nat} {i : Option Nat} (mode : d.mdc.mode = .preparation)
    (failed : commitFailure d.mdc.config d.prs.load = some (n, i)) :
    askCommit d = ⟨d, some .checkFailed, .check n i⟩ := by
  rw [askCommit, judged_accepted _ d (by simp [firstFailure, inPreparation, mode]), failed]

theorem askCommit_passed {d : Device} (mode : d.mdc.mode = .preparation)
    (passed : commitFailure d.mdc.config d.prs.load = none) : askCommit d = commit d := by
  rw [askCommit, judged_accepted _ d (by simp [firstFailure, inPreparation, mode]), passed]

theorem chooseSource_known (d : Device) : (chooseSource d).odu.known = d.odu.known := by
  unfold chooseSource
  dsimp only
  (repeat' split) <;> rfl

theorem meshChanged_known (d : Device) : (meshChanged d).odu.known = d.odu.known := by
  rw [meshChanged, (rackEntryTest_keeps _).odu]
  exact chooseSource_known d

theorem placeBogies_known (d : Device) : (placeBogies d).odu.known = d.odu.known := by
  unfold placeBogies
  dsimp only
  split
  · rfl
  · exact meshChanged_known _

/-- Placing the bogies anew leaves the position known or unknown as it was. -/
theorem placeAgain_known (d : Device) : (placeAgain d).odu.known = d.odu.known := by
  rw [placeAgain, (positionChanged_keeps _).odu]
  exact placeBogies_known d

theorem linkCommit_keeps (d : Device) : KeepsMotion d (linkCommit d) := by
  unfold linkCommit
  split
  · split
    · exact linkTo_keeps _ _ d
    · exact .refl d
  · exact linkTo_keeps _ _ d

/-- The hand-over of a commit keeps the profile and the authority unit (R33). -/
theorem handOverCommit_keeps (kept : Bool) (d : Device) : KeepsGiven d (handOverCommit kept d) := by
  cases kept with
  | true => exact (placeAgain_keeps d).trans (linkCommit_keeps _).given
  | false =>
    have forgotten : KeepsGiven d (forgetPosition d) := ⟨rfl, rfl, rfl, rfl, rfl, rfl, rfl, rfl⟩
    exact (forgotten.trans (placeAgain_keeps _)).trans
      ((judgeShadow_keeps _).trans (linkCommit_keeps _)).given

/-- The position stays known only where the profile kept its digest (R33). -/
theorem handOverCommit_known (kept : Bool) (d : Device) :
    (handOverCommit kept d).odu.known = (d.odu.known && kept) := by
  cases kept with
  | true =>
    calc (linkCommit (placeAgain d)).odu.known
        = (placeAgain d).odu.known := by rw [(linkCommit_keeps _).odu]
      _ = d.odu.known := placeAgain_known d
      _ = (d.odu.known && true) := (Bool.and_true _).symm
  | false =>
    calc (linkCommit (judgeShadow (placeAgain (forgetPosition d)))).odu.known
        = (placeAgain (forgetPosition d)).odu.known := by
          rw [(linkCommit_keeps _).odu, (judgeShadow_keeps _).odu]
      _ = false := placeAgain_known _
      _ = (d.odu.known && false) := (Bool.and_false _).symm

/-- A commit makes the load area the current profile and leaves the load area as it was (R31). -/
theorem commit_prs (d : Device) :
    (commit d).dev.prs = ⟨profileOf d.prs.load, true, d.prs.load⟩ := (handOverCommit_keeps _ _).prs

theorem commit_odu_known (d : Device) : (commit d).dev.odu.known =
    (d.odu.known && d.prs.cur.digest == (profileOf d.prs.load).digest) := handOverCommit_known _ _

theorem commit_aru (d : Device) : (commit d).dev.aru = d.aru := (handOverCommit_keeps _ _).aru

theorem replied_aru (s : State) (q : Req) (r : Option Reason) (x : ReplyData) (d : Device) :
    (s.replied q r x d).dev.aru = d.aru := by
  obtain ⟨-, -, -, -, -, -, -, aru⟩ := finish_blocks (reply q.tag r x d)
  exact aru

/-- Settles O30: the reply carries the failed check; a success hands over the device that already has
the load area for its profile. -/
theorem commitProfile : Obligations.CommitProfile := by
  intro q s taken mode
  refine ⟨fun n i failed => request_answered taken (askCommit_failed mode failed), fun passed => ?_⟩
  have ran := request_taken taken askCommit
  rw [askCommit_passed mode passed] at ran
  obtain ⟨-, prs, odu⟩ := replied_keeps s q (commit (validFrame s.dev)).reason
    (commit (validFrame s.dev)).data (commit (validFrame s.dev)).dev
  refine ⟨_, ran, ?_, ?_, ?_⟩
  · rw [prs, commit_prs]
  · rw [odu, commit_odu_known]
  · rw [replied_aru, commit_aru]

/-! ### The profile queries -/

/-- Each segment has one extent: from its start to the chainage in front of the next start, or to the end
of the line (R17). -/
theorem extentsOf_getElem? (lineLength : Nat) (segments : List Segment) (i : Nat) :
    (extentsOf lineLength segments)[i]? = segments[i]?.map (fun g =>
      ⟨g, g.start.toNat, match segments[i + 1]? with
        | some h => h.start.toNat - 1
        | none => lineLength⟩) := by
  induction segments generalizing i with
  | nil => rfl
  | cons g rest ih =>
    cases rest with
    | nil => cases i <;> simp [extentsOf]
    | cons h rest =>
      cases i with
      | zero => rfl
      | succ i => exact ih i

theorem askSegment_empty {i : Nat} {d : Device} (empty : d.prs.cur.segments = []) :
    askSegment i d = refuse .noProfile d := if_pos empty

theorem askSegment_beyond {i : Nat} {d : Device} (filled : d.prs.cur.segments ≠ [])
    (beyond : d.prs.cur.segments.length ≤ i) : askSegment i d = refuse .notFound d := by
  rw [askSegment, if_neg filled, Profile.extents, extentsOf_getElem?, List.getElem?_eq_none beyond]
  rfl

theorem askSegment_found {i : Nat} {g : Segment} {d : Device}
    (found : d.prs.cur.segments[i]? = some g) :
    askSegment i d = ⟨d, none, segmentReply d.mdc.config ⟨g, g.start.toNat,
      match d.prs.cur.segments[i + 1]? with
      | some h => h.start.toNat - 1
      | none => d.prs.cur.lineLength.toNat⟩⟩ := by
  have filled : d.prs.cur.segments ≠ [] := List.ne_nil_of_mem (List.mem_of_getElem? found)
  rw [askSegment, if_neg filled, Profile.extents, extentsOf_getElem?, found]
  rfl

/-- Settles O31: GET_SEGMENT by where its index lies; the profile at reset is read off. -/
theorem profileQueriesComplete : Obligations.ProfileQueriesComplete := by
  refine ⟨fun q s taken => ⟨request_taken taken askProfileInfo, ?_, ?_, ?_⟩, rfl, rfl⟩
  · intro i empty
    exact request_answered taken (askSegment_empty empty)
  · intro i filled beyond
    exact request_answered taken (askSegment_beyond filled beyond)
  · intro i g found
    exact request_answered taken (askSegment_found found)

end Sys2Proof.Machine
end

section
/-! What each operation leaves of the Profile Store: all of it, but for the requests that write it. An
operation's proof splits its branches; each is closed by the lemmas of the operations it calls, which stand
above it. -/

namespace Sys2Proof.Machine

/-! ### Requests and folds -/

@[simp] theorem accept_dev (d : Device) : (accept d).dev = d := rfl
@[simp] theorem refuse_dev (r : Reason) (d : Device) : (refuse r d).dev = d := rfl

@[simp] theorem foldl_prs {α : Type} (f : Device → α → Device) (h : ∀ x a, (f x a).prs = x.prs)
    (l : List α) (d : Device) : (l.foldl f d).prs = d.prs := by
  induction l generalizing d with
  | nil => rfl
  | cons a l ih => exact (ih _).trans (h d a)

/-- A request judged by checks keeps the Profile Store if its effect does. -/
@[simp] theorem judged_prs {checks : List (Bool × Reason)} {run : Device → Answered} {d : Device}
    (h : (run d).dev.prs = d.prs) : (judged checks run d).dev.prs = d.prs :=
  judged_rel (R := fun d e => e.prs = d.prs) (fun _ => rfl) checks run d fun _ => h

/-! ### The shared operations, as `KeepsBlocks`, `KeepsMotion` and `KeepsGiven` have them -/

@[simp] theorem notify_prs (n : Notice) (d : Device) :
    (notify n d).prs = d.prs := (notify_keeps n d).prs
@[simp] theorem queueEntry_prs (k : UplinkKind) (p : List Byte) (d : Device) :
    (queueEntry k p d).1.prs = d.prs := (queueEntry_keeps k p d).prs
@[simp] theorem callPosition_prs (d : Device) :
    (callPosition d).prs = d.prs := (callPosition_keeps d).prs
@[simp] theorem endTest_prs (r : TestResult) (c : EndCause) (d : Device) :
    (endTest r c d).prs = d.prs := (endTest_keeps r c d).prs
@[simp] theorem bdtEvent_prs (f : List Entry → List Entry) (d : Device) :
    (bdtEvent f d).prs = d.prs := (bdtEvent_keeps f d).prs
@[simp] theorem raiseWith_prs (src : Source) (l : Level) (x : Option Nat) (d : Device) :
    (raiseWith src l x d).prs = d.prs := (raiseWith_keeps src l x d).prs
@[simp] theorem setCondition_prs (src : Source) (b : Bool) (d : Device) :
    (setCondition src b d).prs = d.prs := (setCondition_keeps src b d).prs
@[simp] theorem refreshBrakes_prs (d : Device) :
    (refreshBrakes d).prs = d.prs := (refreshBrakes_keeps d).prs
@[simp] theorem judgeChannel_prs (ch : Channel) (d : Device) :
    (judgeChannel ch d).prs = d.prs := (judgeChannel_keeps ch d).prs
@[simp] theorem beginPhase_prs (p : Phase) (k : Nat) (d : Device) :
    (beginPhase p k d).prs = d.prs := (beginPhase_keeps p k d).prs
@[simp] theorem testMovement_prs (m : Nat) (d : Device) :
    (testMovement m d).prs = d.prs := (testMovement_keeps m d).prs
@[simp] theorem setDoor_prs (n : DoorNo) (r : DoorRec) (d : Device) :
    (setDoor n r d).prs = d.prs := (setDoor_keeps n r d).prs
@[simp] theorem eachDoor_prs (f : DoorNo → DoorRec → DoorRec) (d : Device) :
    (eachDoor f d).prs = d.prs := (eachDoor_keeps f d).prs
@[simp] theorem judgeRelease_prs (d : Device) :
    (judgeRelease d).prs = d.prs := (judgeRelease_keeps d).prs
@[simp] theorem judgeDoorConditions_prs (d : Device) :
    (judgeDoorConditions d).prs = d.prs := (judgeDoorConditions_keeps d).prs
@[simp] theorem takeReport_prs (n : DoorNo) (x : Report) (d : Device) :
    (takeReport n x d).prs = d.prs := (takeReport_keeps n x d).prs
@[simp] theorem loseDoor_prs (n : DoorNo) (d : Device) :
    (loseDoor n d).prs = d.prs := (loseDoor_keeps n d).prs
@[simp] theorem rollawayTest_prs (d : Device) :
    (rollawayTest d).prs = d.prs := (rollawayTest_keeps d).prs
@[simp] theorem refreshModeEntry_prs (d : Device) :
    (refreshModeEntry d).prs = d.prs := (refreshModeEntry_keeps d).prs
@[simp] theorem modeNotice_prs (d : Device) : (modeNotice d).prs = d.prs := (modeNotice_keeps d).prs
@[simp] theorem changeMode_prs (m : Mode) (d : Device) :
    (changeMode m d).prs = d.prs := (changeMode_keeps m d).prs
@[simp] theorem positionChanged_prs (d : Device) :
    (positionChanged d).prs = d.prs := (positionChanged_keeps d).prs
@[simp] theorem evaluate_prs (d : Device) : (evaluate d).prs = d.prs := (evaluate_keeps d).prs
@[simp] theorem rackEntryTest_prs (d : Device) :
    (rackEntryTest d).prs = d.prs := (rackEntryTest_keeps d).prs
@[simp] theorem meshChanged_prs (d : Device) :
    (meshChanged d).prs = d.prs := (meshChanged_keeps d).prs
@[simp] theorem placeAgain_prs (d : Device) : (placeAgain d).prs = d.prs := (placeAgain_keeps d).prs
@[simp] theorem faultBogie_prs (w : Bogie) (d : Device) :
    (faultBogie w d).prs = d.prs := (faultBogie_keeps w d).prs
@[simp] theorem recoverBogies_prs (d : Device) :
    (recoverBogies d).prs = d.prs := (recoverBogies_keeps d).prs
@[simp] theorem linkTo_prs (l : LinkState) (v : LinkEvent) (d : Device) :
    (linkTo l v d).prs = d.prs := (linkTo_keeps l v d).prs
@[simp] theorem silenceExpires_prs (d : Device) :
    (silenceExpires d).prs = d.prs := (silenceExpires_keeps d).prs
@[simp] theorem judgeShadow_prs (d : Device) :
    (judgeShadow d).prs = d.prs := (judgeShadow_keeps d).prs
@[simp] theorem validFrame_prs (d : Device) : (validFrame d).prs = d.prs := (validFrame_keeps d).prs
@[simp] theorem startConditions_prs (d : Device) :
    (startConditions d).prs = d.prs := (startConditions_keeps d).prs

/-! ### Mesh and calibration -/

@[simp] theorem endMeshWindow_prs (w : Bogie) (m : MeshRec) (d : Device) :
    (endMeshWindow w m d).prs = d.prs := by
  unfold endMeshWindow
  dsimp only
  (repeat' split) <;> simp

@[simp] theorem rackToothMesh_prs (w : Bogie) (d : Device) : (rackToothMesh w d).prs = d.prs := by
  unfold rackToothMesh
  dsimp only
  (repeat' split) <;> simp

@[simp] theorem pinionToothMesh_prs (w : Bogie) (d : Device) :
    (pinionToothMesh w d).prs = d.prs := by
  unfold pinionToothMesh
  dsimp only
  split <;> simp

@[simp] theorem missingRack_prs (n : Nat) (w : Bogie) (d : Device) :
    (missingRack n w d).prs = d.prs := by
  unfold missingRack
  dsimp only
  (repeat' split) <;> simp

@[simp] theorem castVote_prs (c : CarConfig) (k : Calib) (v : Leaning) (d : Device) :
    (castVote c k v d).prs = d.prs := by
  unfold castVote
  dsimp only
  (repeat' split) <;> simp

@[simp] theorem endCalWindow_prs (n : Nat) (d : Device) : (endCalWindow n d).prs = d.prs := by
  unfold endCalWindow
  (repeat' split) <;> simp

@[simp] theorem calTooth_prs (x : Sense) (d : Device) : (calTooth x d).prs = d.prs := by
  unfold calTooth
  (repeat' split) <;> simp

@[simp] theorem calPulse_prs (x : Sense) (d : Device) : (calPulse x d).prs = d.prs := by
  unfold calPulse
  (repeat' split) <;> simp

/-! ### Distance and standstill -/

@[simp] theorem movePosition_prs (b : Bool) (n : Nat) (x : Option Dir) (d : Device) :
    (movePosition b n x d).prs = d.prs := by
  unfold movePosition
  dsimp only
  (repeat' split) <;> simp

@[simp] theorem rollawayDistance_prs (n : Nat) (x : Option Dir) (d : Device) :
    (rollawayDistance n x d).prs = d.prs := by simp [rollawayDistance]

@[simp] theorem takeDistance_prs (b : Bool) (n : Nat) (x : Option Dir) (d : Device) :
    (takeDistance b n x d).prs = d.prs := by simp [takeDistance]

@[simp] theorem judgeDoorsMoving_prs (d : Device) : (judgeDoorsMoving d).prs = d.prs := by
  unfold judgeDoorsMoving
  split <;> simp

@[simp] theorem testStandstillLost_prs (d : Device) : (testStandstillLost d).prs = d.prs := by
  unfold testStandstillLost
  (repeat' split) <;> simp

@[simp] theorem standstillCleared_prs (d : Device) :
    (standstillCleared d).prs = d.prs := by simp [standstillCleared]

@[simp] theorem countEdge_prs (d : Device) : (countEdge d).prs = d.prs := by
  unfold countEdge
  split <;> simp

@[simp] theorem clearStartUpHold_prs (d : Device) : (clearStartUpHold d).prs = d.prs := by
  unfold clearStartUpHold
  split <;> simp

@[simp] theorem endWithdrawn_prs (d : Device) : (endWithdrawn d).prs = d.prs := by
  unfold endWithdrawn
  (repeat' split) <;> simp

@[simp] theorem setStandstill_prs (d : Device) :
    (setStandstill d).prs = d.prs := by simp [setStandstill]

@[simp] theorem countQuiet_prs (d : Device) : (countQuiet d).prs = d.prs := by
  unfold countQuiet
  dsimp only
  (repeat' split) <;> simp

@[simp] theorem twentiethQuiet_prs (d : Device) : (twentiethQuiet d).prs = d.prs := by
  unfold twentiethQuiet
  split <;> simp

/-! ### Radio -/

@[simp] theorem pushAck_prs (n : Byte) (r : Result) (d : Device) : (pushAck n r d).prs = d.prs := by
  unfold pushAck
  split <;> simp

@[simp] theorem acknowledge_prs (n : Byte) (d : Device) : (acknowledge n d).prs = d.prs := by
  unfold acknowledge
  (repeat' split) <;> simp

@[simp] theorem ackTimeout_prs (n : Byte) (d : Device) : (ackTimeout n d).prs = d.prs := by
  unfold ackTimeout
  (repeat' split) <;> simp

@[simp] theorem telegramEnd_prs (d : Device) : (telegramEnd d).prs = d.prs := by
  unfold telegramEnd
  (repeat' split) <;> simp

@[simp] theorem logonExpires_prs (d : Device) : (logonExpires d).prs = d.prs := by
  unfold logonExpires
  split <;> simp

@[simp] theorem reportExpires_prs (d : Device) : (reportExpires d).prs = d.prs := by
  unfold reportExpires
  split <;> simp

@[simp] theorem finish_prs (d : Device) : (finish d).prs = d.prs := by
  obtain ⟨-, prs, -⟩ := finish_blocks d
  exact prs

/-! ### Authority and restrictions -/

@[simp] theorem setAuthority_prs (a : Option Authority) (t : Option Timer) (d : Device) :
    (setAuthority a t d).prs = d.prs := by simp [setAuthority]

@[simp] theorem takeGrant_prs (p : List Byte) (d : Device) : (takeGrant p d).1.prs = d.prs := by
  unfold takeGrant
  dsimp only
  (repeat' split) <;> simp

@[simp] theorem takeShorten_prs (p : List Byte) (d : Device) : (takeShorten p d).1.prs = d.prs := by
  unfold takeShorten
  split <;> simp

@[simp] theorem withdrawAuthority_prs (d : Device) : (withdrawAuthority d).prs = d.prs := by
  unfold withdrawAuthority
  (repeat' split) <;> simp

@[simp] theorem authorityExpires_prs (d : Device) : (authorityExpires d).prs = d.prs := by
  unfold authorityExpires
  split <;> simp

@[simp] theorem stage_prs (x : Staged) (r : Result) (d : Device) : (stage x r d).1.prs = d.prs := by
  unfold stage
  dsimp only
  split <;> simp

@[simp] theorem noticePending_prs (b : Bool) (x : Device × Result) :
    (noticePending b x).1.prs = x.1.prs := by
  unfold noticePending
  split <;> simp

@[simp] theorem takeRestriction_prs (p : List Byte) (d : Device) :
    (takeRestriction p d).1.prs = d.prs := by
  unfold takeRestriction
  (repeat' split) <;> simp

@[simp] theorem takeLift_prs (p : List Byte) (d : Device) : (takeLift p d).1.prs = d.prs := by
  unfold takeLift
  dsimp only
  (repeat' split) <;> simp

@[simp] theorem judgeRoom_prs (d : Device) : (judgeRoom d).prs = d.prs := by
  unfold judgeRoom
  split <;> simp

@[simp] theorem updateRestrictions_prs (d : Device) :
    (updateRestrictions d).prs = d.prs := by simp [updateRestrictions]

@[simp] theorem setStopOrder_prs (b : Bool) (d : Device) :
    (setStopOrder b d).prs = d.prs := by simp [setStopOrder]

/-! ### Telegrams -/

@[simp] theorem logonAnswer_prs (b : Byte) (d : Device) : (logonAnswer b d).prs = d.prs := by
  unfold logonAnswer
  (repeat' split) <;> simp

@[simp] theorem handToAru_prs (k : DownKind) (p : List Byte) (d : Device) :
    (handToAru k p d).1.prs = d.prs := by
  unfold handToAru
  split <;> simp

@[simp] theorem takeAcknowledged_prs (k : DownKind) (t : Telegram) (d : Device) :
    (takeAcknowledged k t d).prs = d.prs := by
  unfold takeAcknowledged
  (repeat' split) <;> simp

@[simp] theorem actOn_prs (k : DownKind) (t : Telegram) (d : Device) :
    (actOn k t d).prs = d.prs := by
  unfold actOn
  (repeat' split) <;> simp

@[simp] theorem restartSilence_prs (d : Device) : (restartSilence d).prs = d.prs := by
  unfold restartSilence
  split <;> simp

@[simp] theorem takeValid_prs (k : DownKind) (t : Telegram) (d : Device) :
    (takeValid k t d).prs = d.prs := by
  unfold takeValid
  dsimp only
  (repeat' split) <;> simp

@[simp] theorem takeTelegram_prs (k : DownKind) (t : Telegram) (d : Device) :
    (takeTelegram k t d).prs = d.prs := by simp [takeTelegram]

@[simp] theorem takeComplete_prs (frame : List Byte) (d : Device) :
    (takeComplete frame d).prs = d.prs := by
  unfold takeComplete
  split <;> simp

@[simp] theorem takeModemBytes_prs (bytes : List Byte) (d : Device) :
    (takeModemBytes bytes d).prs = d.prs := by simp [takeModemBytes]

/-! ### Resets -/

@[simp] theorem restartBlocks_prs (d : Device) : (restartBlocks d).prs = d.prs := rfl
@[simp] theorem restartMesh_prs (d : Device) : (restartMesh d).prs = d.prs := rfl

@[simp] theorem startedNotice_prs (d : Device) :
    (startedNotice d).prs = d.prs := by simp [startedNotice]

@[simp] theorem restartReports_prs (m : Mode) (d : Device) : (restartReports m d).prs = d.prs := by
  unfold restartReports
  dsimp only
  (repeat' split) <;> simp

@[simp] theorem warmRestart_prs (d : Device) : (warmRestart d).prs = d.prs := by
  unfold warmRestart
  dsimp only
  split <;> simp

@[simp] theorem hearFrame_prs (d : Device) : (hearFrame d).prs = d.prs := by simp [hearFrame]

/-! ### Mode requests -/

@[simp] theorem askEnterService_prs (d : Device) :
    (askEnterService d).dev.prs = d.prs := by simp [askEnterService]

@[simp] theorem askEnterStabled_prs (d : Device) : (askEnterStabled d).dev.prs = d.prs := by
  unfold askEnterStabled
  split <;> simp

@[simp] theorem askWake_prs (d : Device) : (askWake d).dev.prs = d.prs := by
  unfold askWake
  split <;> simp

@[simp] theorem askEnterPreparation_prs (d : Device) :
    (askEnterPreparation d).dev.prs = d.prs := by simp [askEnterPreparation]

@[simp] theorem askRestart_prs (d : Device) : (askRestart d).dev.prs = d.prs := judged_prs rfl

@[simp] theorem wakeExpires_prs (d : Device) : (wakeExpires d).prs = d.prs := by
  unfold wakeExpires
  split <;> simp

@[simp] theorem restartIfAccepted_prs (d : Device) : (restartIfAccepted d).prs = d.prs := by
  unfold restartIfAccepted
  (repeat' split) <;> simp

@[simp] theorem askClearResetRecord_prs (d : Device) : (askClearResetRecord d).dev.prs = d.prs := by
  rw [askClearResetRecord, accept_dev]

@[simp] theorem askOrientation_prs (v : Option Dir) (d : Device) :
    (askOrientation v d).dev.prs = d.prs := by simp [askOrientation]

/-! ### Queries and the position -/

@[simp] theorem askSegment_prs (i : Nat) (d : Device) : (askSegment i d).dev.prs = d.prs := by
  unfold askSegment
  (repeat' split) <;> simp

@[simp] theorem askSetPosition_prs (x u : Nat) (d : Device) :
    (askSetPosition x u d).dev.prs = d.prs :=
  judged_prs (by simp)

@[simp] theorem answerPart_prs (k : QueryKind) (n : Nat) (d : Device) :
    (answerPart k n d).dev.prs = d.prs := by rw [answerPart_dev]

@[simp] theorem query_prs (k : QueryKind) (p : Byte) (f : Device → Contents) (d : Device) :
    (query k p f d).dev.prs = d.prs := by
  unfold query
  split <;> simp

/-! ### Demands and brakes -/

@[simp] theorem askReaction_prs (n : Nat) (l : Option Level) (m : Option LatchMode) (d : Device) :
    (askReaction n l m d).dev.prs = d.prs := by
  unfold askReaction
  (repeat' split) <;> simp

@[simp] theorem releaseEntry_prs (src : Source) (d : Device) :
    (releaseEntry src d).prs = d.prs := by
  unfold releaseEntry
  split <;> simp

@[simp] theorem askAck_prs (n : Nat) (d : Device) : (askAck n d).dev.prs = d.prs := by
  unfold askAck
  (repeat' split) <;> simp

@[simp] theorem askBrakeRequest_prs (l : Option Level) (n : Nat) (d : Device) :
    (askBrakeRequest l n d).dev.prs = d.prs := by
  unfold askBrakeRequest
  split <;> simp

@[simp] theorem feedbackEdge_prs (ch : Channel) (b : Bool) (d : Device) :
    (feedbackEdge ch b d).prs = d.prs := by
  unfold feedbackEdge
  dsimp only
  split <;> simp

@[simp] theorem feedbackExpires_prs (ch : Channel) (d : Device) :
    (feedbackExpires ch d).prs = d.prs := by
  unfold feedbackExpires
  dsimp only
  split <;> simp

@[simp] theorem nextPhase_prs (r : TestRun) (d : Device) : (nextPhase r d).prs = d.prs := by
  unfold nextPhase
  (repeat' split) <;> simp

@[simp] theorem phaseExpires_prs (d : Device) : (phaseExpires d).prs = d.prs := by
  unfold phaseExpires
  (repeat' split) <;> simp

@[simp] theorem askStopTest_prs (d : Device) : (askStopTest d).dev.prs = d.prs := by
  unfold askStopTest
  split <;> simp

@[simp] theorem beginTest_prs (h : Option (Nat × Nat)) (d : Device) :
    (beginTest h d).prs = d.prs := by simp [beginTest]

@[simp] theorem startTest_prs (h : Option (Nat × Nat)) (d : Device) :
    (startTest h d).prs = d.prs := by simp [startTest]

@[simp] theorem askStartTest_prs (h : Option (Nat × Nat)) (d : Device) :
    (askStartTest h d).dev.prs = d.prs := by simp [askStartTest]

/-! ### Doors and their bus -/

@[simp] theorem grantRelease_prs (x : Side) (d : Device) :
    (grantRelease x d).prs = d.prs := by simp [grantRelease]

@[simp] theorem closeDoors_prs (x : SideSel) (d : Device) :
    (closeDoors x d).prs = d.prs := by simp [closeDoors]

@[simp] theorem askReleaseDoors_prs (x : Option Side) (d : Device) :
    (askReleaseDoors x d).dev.prs = d.prs := by
  unfold askReleaseDoors
  cases x <;> exact judged_prs (by simp)

@[simp] theorem askCloseDoors_prs (x : Option SideSel) (d : Device) :
    (askCloseDoors x d).dev.prs = d.prs := by
  unfold askCloseDoors
  split <;> simp

@[simp] theorem missTrans_prs (t : Trans) (b : Bool) (d : Device) :
    (missTrans t b d).prs = d.prs := by
  unfold missTrans
  dsimp only
  (repeat' split) <;> simp

@[simp] theorem reportTrans_prs (t : Trans) (x : Report) (d : Device) :
    (reportTrans t x d).prs = d.prs := by
  unfold reportTrans
  split <;> simp

@[simp] theorem waitTrans_prs (t : Trans) (d : Device) : (waitTrans t d).prs = d.prs := by
  unfold waitTrans
  (repeat' split) <;> simp

@[simp] theorem takeAnswer_prs (judge : DoorNo → Answer) (d : Device) :
    (takeAnswer judge d).prs = d.prs := by
  unfold takeAnswer
  (repeat' split) <;> simp

@[simp] theorem windowCloses_prs (d : Device) :
    (windowCloses d).prs = d.prs := by simp [windowCloses]

@[simp] theorem isolateUnit_prs (n : DoorNo) (d : Device) : (isolateUnit n d).prs = d.prs := by
  unfold isolateUnit
  dsimp only
  (repeat' split) <;> simp

@[simp] theorem isolate_prs (n : DoorNo) (d : Device) : (isolate n d).prs = d.prs := by
  unfold isolate
  split <;> simp

@[simp] theorem askIsolate_prs (n : Nat) (d : Device) : (askIsolate n d).dev.prs = d.prs := by
  unfold askIsolate
  split <;> simp

@[simp] theorem askDeisolate_prs (n : Nat) (d : Device) : (askDeisolate n d).dev.prs = d.prs := by
  unfold askDeisolate
  split <;> simp

@[simp] theorem askClearFlags_prs (n : Nat) (d : Device) : (askClearFlags n d).dev.prs = d.prs := by
  unfold askClearFlags
  (repeat' split) <;> simp

@[simp] theorem dwellExpires_prs (n : DoorNo) (d : Device) : (dwellExpires n d).prs = d.prs := by
  unfold dwellExpires
  dsimp only
  split <;> simp

@[simp] theorem pollEnd_prs (d : Device) : (pollEnd d).prs = d.prs := by
  unfold pollEnd
  (repeat' split) <;> simp

@[simp] theorem repeatPoll_prs (d : Device) : (repeatPoll d).prs = d.prs := by
  unfold repeatPoll
  (repeat' split) <;> simp

/-! ### Authority requests and the link -/

@[simp] theorem selectDir_prs (x : Option Dir) (d : Device) : (selectDir x d).prs = d.prs := by
  unfold selectDir
  split <;> simp

@[simp] theorem askSelectDirection_prs (x : Option (Option Dir)) (d : Device) :
    (askSelectDirection x d).dev.prs = d.prs := by
  unfold askSelectDirection
  split <;> simp

@[simp] theorem askAuthority_prs (d : Device) : (askAuthority d).dev.prs = d.prs := by
  unfold askAuthority
  dsimp only
  (repeat' split) <;> simp

@[simp] theorem askAddRestriction_prs (i a b l : Nat) (x : Option AppliesTo) (d : Device) :
    (askAddRestriction i a b l x d).dev.prs = d.prs := by
  unfold askAddRestriction
  split
  · rfl
  · rfl
  · exact judged_prs rfl

@[simp] theorem askLiftRestriction_prs (i : Nat) (d : Device) :
    (askLiftRestriction i d).dev.prs = d.prs := by
  unfold askLiftRestriction
  split <;> simp

@[simp] theorem linkSilenceExpires_prs (d : Device) : (linkSilenceExpires d).prs = d.prs := by
  unfold linkSilenceExpires
  split <;> simp

@[simp] theorem frameEnd_prs (d : Device) : (frameEnd d).prs = d.prs := by
  unfold frameEnd
  (repeat' split) <;> simp

@[simp] theorem askStatus_prs (d : Device) : (askStatus d).dev.prs = d.prs := by rw [askStatus]

/-! ### Edges, markers and samples -/

@[simp] theorem sourceTooth_prs (w : Bogie) (x : Sense) (d : Device) :
    (sourceTooth w x d).prs = d.prs := by
  unfold sourceTooth
  (repeat' split) <;> simp

@[simp] theorem rackTooth_prs (w : Bogie) (x : Sense) (d : Device) :
    (rackTooth w x d).prs = d.prs := by
  unfold rackTooth
  dsimp only
  split <;> simp

@[simp] theorem meshWindowTooth_prs (w : Bogie) (x : Sense) (d : Device) :
    (meshWindowTooth w x d).prs = d.prs := by
  unfold meshWindowTooth
  dsimp only
  split <;> simp

@[simp] theorem calibrationTooth_prs (d : Device) : (calibrationTooth d).prs = d.prs := by
  unfold calibrationTooth
  (repeat' split) <;> simp

@[simp] theorem pinionTooth_prs (w : Bogie) (d : Device) :
    (pinionTooth w d).prs = d.prs := by simp [pinionTooth]

@[simp] theorem wheelPulse_prs (x : Sense) (d : Device) : (wheelPulse x d).prs = d.prs := by
  unfold wheelPulse
  dsimp only
  (repeat' split) <;> simp

@[simp] theorem setByMarker_prs (c : CarConfig) (f : Dir) (m : MarkerRec) (a b : Bool) (d : Device) :
    (setByMarker c f m a b d).prs = d.prs := by simp [setByMarker]

@[simp] theorem readMarker_prs (i : BitVec 16) (d : Device) : (readMarker i d).prs = d.prs := by
  unfold readMarker
  (repeat' split) <;> simp

@[simp] theorem sampleHandle_prs (h : Nat) (f : Bool) (d : Device) :
    (sampleHandle h f d).prs = d.prs := by
  unfold sampleHandle
  dsimp only
  split <;> simp

@[simp] theorem judgeAlarm_prs (d : Device) : (judgeAlarm d).prs = d.prs := by simp [judgeAlarm]

@[simp] theorem speedSample_prs (h : Nat) (f : Bool) (d : Device) :
    (speedSample h f d).prs = d.prs := by simp [speedSample]

@[simp] theorem withContact_prs (ch : Channel) (b : Bool) (d : Device) :
    (withContact ch b d).prs = d.prs := by
  unfold withContact
  split <;> simp

@[simp] theorem askResetRecord_prs (d : Device) :
    (askResetRecord d).dev.prs = d.prs := by rw [askResetRecord]

@[simp] theorem askProfileInfo_prs (d : Device) :
    (askProfileInfo d).dev.prs = d.prs := by rw [askProfileInfo]

@[simp] theorem askAcceptRelaxations_prs (d : Device) : (askAcceptRelaxations d).dev.prs = d.prs :=
  updateRestrictions_prs d

/-! ### The command table -/

@[simp] theorem request_prs (q : Req) {body : Device → Answered} (h : ∀ d, (body d).dev.prs = d.prs)
    (d : Device) : (request q body d).prs = d.prs := by
  unfold request answerFrame
  (repeat' split) <;> simp [h]

/-- A row of the command table that moves a line, if any, and runs its operation while the part is up. -/
theorem prs_of_up {f : Device → Device} {e : Device} {s t : State} (line : e.prs = s.dev.prs)
    (h : (f e).prs = e.prs) (ht : become s (whenUp f e) = .next t) : t.dev.prs = s.dev.prs := by
  obtain rfl := Host.Outcome.next.inj ht
  unfold whenUp
  split
  · exact line
  · exact (finish_prs _).trans (h.trans line)

/-- The commands that can write the Profile Store (R12, R13, R22, R31): nine rows, and raw bytes, which
may hold one of these requests. -/
def writesStore : Instr → Prop
  | .powerOn | .batterySample _ | .configureCar _ _ | .loadLine _ _ _ | .loadSegment _ _ _
  | .loadStation _ _ _ | .loadMarker _ _ _ | .clearLoad _ | .commitProfile _ | .frameDiscarded _ => True
  | _ => False

/-- Every other command leaves the Profile Store as it was: each row's operation has its lemma above. -/
theorem exec_prs (c : Instr) (s t : State) (hc : ¬ writesStore c) (ht : exec c s = .next t) :
    t.dev.prs = s.dev.prs := by
  cases c with
  | powerOn | batterySample | configureCar | loadLine | loadSegment | loadStation | loadMarker
  | clearLoad | commitProfile | frameDiscarded => exact absurd trivial hc
  | unknownKind tag kind => exact prs_of_up rfl (request_prs _ (fun _ => rfl) _) ht
  | _ => refine prs_of_up ?_ ?_ ht <;> simp

end Sys2Proof.Machine
end

section
/-! The canonical form of the load area, kept by every step: O11. -/

namespace Sys2Proof.Machine

/-! ### The relation -/

/-- The load area of the second device is in canonical form if the first one's is (section 2.2). -/
def KeepsForm (d e : Device) : Prop := LoadLaw d → LoadLaw e

theorem KeepsForm.refl (d : Device) : KeepsForm d d := id

theorem KeepsForm.trans {d e f : Device} (h : KeepsForm d e) (k : KeepsForm e f) : KeepsForm d f :=
  k ∘ h

theorem KeepsForm.of_load {d e : Device} (h : e.prs.load = d.prs.load) : KeepsForm d e := by
  unfold KeepsForm LoadLaw
  rw [h]
  exact id

theorem KeepsForm.of_prs {d e : Device} (h : e.prs = d.prs) : KeepsForm d e := .of_load (by rw [h])

theorem LoadLaw.of_empty {d : Device} (h : d.prs.load = emptyLoad) : LoadLaw d := by
  unfold LoadLaw
  rw [h]
  rfl

theorem LoadArea.wf_iff (a : LoadArea) : a.wf = true ↔
    tableWf 256 a.segments = true ∧ tableWf 32 a.stations = true ∧ tableWf 128 a.markers = true := by
  simp [LoadArea.wf, and_assoc]

/-! ### The requests that write the Profile Store -/

/-- A load request that is accepted keeps the form if its rewriting of the load area does. -/
theorem withLoad_form {f : LoadArea → LoadArea} (h : ∀ a : LoadArea, a.wf = true → (f a).wf = true)
    (d : Device) : KeepsForm d (accept (withLoad f d)).dev := h _

theorem judged_form {checks : List (Bool × Reason)} {run : Device → Answered} {d : Device}
    (h : firstFailure checks = none → KeepsForm d (run d).dev) :
    KeepsForm d (judged checks run d).dev := judged_rel KeepsForm.refl checks run d h

theorem askConfigure_form (r : CarConfig) (d : Device) : KeepsForm d (askConfigure r d).dev := by
  obtain ⟨-, stored, -⟩ := configureCarEffect r d
  refine judged_form fun _ => ?_
  split
  · exact .refl d
  · exact .of_load (by rw [accept_dev, stored])

theorem askLoadLine_form (l : BitVec 24) (v : BitVec 32) (d : Device) :
    KeepsForm d (askLoadLine l v d).dev := judged_form fun _ => withLoad_form (fun _ => id) d

theorem askLoadSegment_form (i : Byte) (r : SegmentBytes) (d : Device) :
    KeepsForm d (askLoadSegment i r d).dev := by
  refine judged_form fun _ => ?_
  split
  · refine withLoad_form (fun a h => ?_) d
    obtain ⟨segments, stations, markers⟩ := a.wf_iff.mp h
    exact (LoadArea.wf_iff _).mpr ⟨putSlot_wf 256 _ _ i.isLt _ segments, stations, markers⟩
  · exact .refl d

theorem askLoadStation_form (i : Byte) (r : StationBytes) (d : Device) :
    KeepsForm d (askLoadStation i r d).dev := by
  refine judged_form fun checked => ?_
  obtain ⟨-, checked⟩ := firstFailure_cons.mp checked
  obtain ⟨room, -⟩ := firstFailure_cons.mp checked
  have room : i.toNat < 32 := of_decide_eq_true room
  split
  · refine withLoad_form (fun a h => ?_) d
    obtain ⟨segments, stations, markers⟩ := a.wf_iff.mp h
    exact (LoadArea.wf_iff _).mpr ⟨segments, putSlot_wf 32 _ _ room _ stations, markers⟩
  · exact .refl d

theorem askLoadMarker_form (i : Byte) (r : MarkerRec) (d : Device) :
    KeepsForm d (askLoadMarker i r d).dev := by
  refine judged_form fun checked => ?_
  obtain ⟨-, checked⟩ := firstFailure_cons.mp checked
  obtain ⟨room, -⟩ := firstFailure_cons.mp checked
  have room : i.toNat < 128 := of_decide_eq_true room
  refine withLoad_form (fun a h => ?_) d
  obtain ⟨segments, stations, markers⟩ := a.wf_iff.mp h
  exact (LoadArea.wf_iff _).mpr ⟨segments, stations, putSlot_wf 128 _ _ room _ markers⟩

theorem askClearLoad_form (d : Device) : KeepsForm d (askClearLoad d).dev :=
  judged_form fun _ => withLoad_form (fun _ _ => rfl) d

theorem askCommit_form (d : Device) : KeepsForm d (askCommit d).dev := by
  refine judged_form fun _ => ?_
  split
  · exact .refl d
  · exact .of_load (by rw [commit_prs])

/-! ### Frames from bytes -/

theorem requestBody_form (kind : Nat) (p : List Byte) (d : Device) :
    KeepsForm d (requestBody kind p d).dev := by
  unfold requestBody
  split
  case h_1 => exact askConfigure_form _ d
  case h_10 => exact askLoadLine_form _ _ d
  case h_11 => exact askLoadSegment_form _ _ d
  case h_12 => exact askLoadStation_form _ _ d
  case h_13 => exact askLoadMarker_form _ _ d
  case h_14 => exact askClearLoad_form d
  case h_15 => exact askCommit_form d
  all_goals exact .of_prs (by simp)

theorem answerFrame_form (q : Req) {body : Device → Answered} (h : ∀ d, KeepsForm d (body d).dev)
    (d : Device) : KeepsForm d (answerFrame q body d) := by
  unfold answerFrame
  split
  · exact .refl d
  · split
    · exact (h d).trans (.of_prs rfl)
    · exact .of_prs rfl

theorem request_form (q : Req) {body : Device → Answered} (h : ∀ d, KeepsForm d (body d).dev)
    (d : Device) : KeepsForm d (request q body d) :=
  (KeepsForm.of_prs (validFrame_prs d)).trans (answerFrame_form q h _)

theorem takeFrame_form (frame : List Byte) (d : Device) : KeepsForm d (takeFrame frame d) :=
  (KeepsForm.of_prs (hearFrame_prs d)).trans (answerFrame_form _ (requestBody_form _ _) _)

theorem takeLinkBytes_form (bytes : List Byte) (d : Device) :
    KeepsForm d (takeLinkBytes bytes d) := by
  have frames : ∀ (l : List (List Byte)) (x : Device),
      KeepsForm x (l.foldl (fun x f => finish (takeFrame f x)) x) := by
    intro l
    induction l with
    | nil => exact .refl
    | cons f l ih =>
      exact fun x => ((takeFrame_form f x).trans (.of_prs (finish_prs _))).trans (ih _)
  exact (KeepsForm.of_prs (keepAssembly_prs bytes d)).trans (frames _ _)

/-! ### Samples and the command table -/

@[simp] theorem judgeFirstSample_prs (r : Nat) (d : Device) :
    (judgeFirstSample r d).prs = d.prs := by
  obtain ⟨w, -, blocks, -⟩ := judgeFirstSample_cases r d
  exact blocks.prs

theorem watchSample_prs (r : Nat) (d : Device) : (watchSample r d).prs = d.prs := by
  unfold watchSample
  split
  · rfl
  · rw [finish_prs]
    (repeat' split) <;> simp

theorem takeBatterySample_form (r : Nat) (d : Device) : KeepsForm d (takeBatterySample r d) := by
  unfold takeBatterySample
  split
  · split
    · have blank : (finish (coldStart r d)).prs = emptyPrs :=
        (finish_prs _).trans (coldStart_started r d).blocks.prs
      exact fun _ => .of_empty (by rw [blank]; rfl)
    · exact .of_prs rfl
  · exact .of_prs (watchSample_prs r d)

theorem form_of_up {f : Device → Device} {s t : State} (h : KeepsForm s.dev (f s.dev))
    (ht : become s (whenUp f s.dev) = .next t) : KeepsForm s.dev t.dev := by
  obtain rfl := Host.Outcome.next.inj ht
  unfold whenUp
  split
  · exact .refl _
  · exact h.trans (.of_prs (finish_prs _))

/-- Every command keeps the canonical form: the load requests fill a slot below the room of their table,
POWER_ON and the end of CUTOFF leave an empty load area, and the rest do not write it. -/
theorem exec_form (c : Instr) (s t : State) (ht : exec c s = .next t) : KeepsForm s.dev t.dev := by
  cases c with
  | powerOn =>
    obtain rfl := Host.Outcome.next.inj ht
    exact fun _ => LoadLaw.of_empty rfl
  | batterySample r =>
    obtain rfl := Host.Outcome.next.inj ht
    exact takeBatterySample_form r _
  | configureCar q r => exact form_of_up (request_form q (askConfigure_form r) _) ht
  | loadLine q l v => exact form_of_up (request_form q (askLoadLine_form l v) _) ht
  | loadSegment q i r => exact form_of_up (request_form q (askLoadSegment_form i r) _) ht
  | loadStation q i r => exact form_of_up (request_form q (askLoadStation_form i r) _) ht
  | loadMarker q i r => exact form_of_up (request_form q (askLoadMarker_form i r) _) ht
  | clearLoad q => exact form_of_up (request_form q askClearLoad_form _) ht
  | commitProfile q => exact form_of_up (request_form q askCommit_form _) ht
  | frameDiscarded b => exact form_of_up (takeLinkBytes_form b _) ht
  | _ => exact .of_prs (exec_prs _ s t id ht)

/-- Settles O11: a step is a tick, which leaves the load area alone, or a command. -/
theorem loadLawKept : Obligations.LoadLawKept := by
  intro s t h ht
  unfold step at ht
  split at ht
  · obtain rfl := Host.Outcome.next.inj ht
    exact h
  · rename_i c rest hp
    exact exec_form c { s with pending := rest } t ht h

end Sys2Proof.Machine
end

section
/-! The arithmetic of the odometry record: the wheel remainder, the calibration vote, the speed of a sample
and a clamped position (O36, O37, O40, O42). -/

namespace Sys2Proof.Machine

/-! ### The wheel remainder -/

/-- Dividing a distance by its unit toward zero loses nothing, whichever way it points. -/
theorem sign_mul_quotient_add_tmod {sign total : Int} (unit : Nat) (unitSign : sign = 1 ∨ sign = -1)
    (points : total = sign * total.natAbs) :
    sign * (total.natAbs / unit * unit : Nat) + total.tmod unit = total := by
  have whole := Nat.div_add_mod' total.natAbs unit
  have rest : total.tmod unit = sign * (total.natAbs % unit : Nat) := by
    generalize total.natAbs = n at points
    rcases unitSign with rfl | rfl
    · rw [points, one_mul, one_mul, Int.ofNat_tmod]
    · rw [points, neg_one_mul, neg_one_mul, Int.neg_tmod, Int.ofNat_tmod]
  rw [rest, ← mul_add, ← Nat.cast_add, whole, ← points]

/-- Settles O36: the remainder is shorter than one turn of the wheel, so the sum points as the pulse does. -/
theorem wheelRemainderIsExact : Obligations.WheelRemainderIsExact := by
  intro unit circ sign r pos unitSign short turn
  have points : r + sign * circ = sign * (r + sign * circ).natAbs := by
    rcases unitSign with rfl | rfl <;> omega
  refine ⟨sign_mul_quotient_add_tmod unit unitSign points, ?_⟩
  change ((r + sign * circ).tmod unit).natAbs < unit
  rw [Int.natAbs_tmod]
  exact Nat.mod_lt _ pos

/-! ### The calibration vote -/

@[simp] theorem votedCalib_circumference (v : Leaning) (k : Calib) :
    (votedCalib v k).circumference = k.circumference := by
  unfold votedCalib
  split
  · rfl
  · split <;> rfl

/-- A step of the circumference stays within the bounds (R59). -/
theorem steppedCirc_bounds {c : CarConfig} {k : Calib} {x : Nat} (lower : c.circMin ≤ k.circumference)
    (upper : k.circumference ≤ c.circMax) (h : steppedCirc c k = some x) :
    c.circMin ≤ x ∧ x ≤ c.circMax
      ∧ (x = k.circumference + c.calStep ∨ x + c.calStep = k.circumference) := by
  unfold steppedCirc at h
  split at h <;> split at h <;> cases h <;> omega

/-- What a vote leaves: the voted calibration below CAL_MAX, or CAL_MIN with a step or none (R59). -/
theorem castVote_cases (c : CarConfig) (k : Calib) (v : Leaning) (d : Device) :
    ∃ k', (castVote c k v d).odu.calib = some k'
      ∧ ((k'.counter < c.calMax ∧ k'.circumference = k.circumference)
        ∨ (k'.counter = c.calMin ∧ k'.circumference = k.circumference)
        ∨ (k'.counter = c.calMin
            ∧ steppedCirc c { votedCalib v k with counter := c.calMin } = some k'.circumference)) := by
  unfold castVote
  dsimp only
  split
  · split
    · rename_i stepped
      exact ⟨_, rfl, .inr (.inr ⟨rfl, stepped⟩)⟩
    · refine ⟨{ votedCalib v k with counter := c.calMin }, ?_, .inr (.inl ⟨rfl, by simp⟩)⟩
      rw [(notify_keeps _ _).odu]
  · rename_i below
    exact ⟨_, rfl, .inl ⟨not_le.mp below, votedCalib_circumference v k⟩⟩

/-- Settles O42: a vote below CAL_MAX moves the counter alone, one at CAL_MAX returns it to CAL_MIN. -/
theorem voteKeepsCounterBelowMax : Obligations.VoteKeepsCounterBelowMax := by
  intro c k v d order _ lower upper
  obtain ⟨k', calib, cases⟩ := castVote_cases c k v d
  refine ⟨k', calib, ?_⟩
  rcases cases with ⟨below, same⟩ | ⟨least, same⟩ | ⟨least, stepped⟩
  · exact ⟨below, same ▸ lower, same ▸ upper, .inl same⟩
  · exact ⟨least ▸ order, same ▸ lower, same ▸ upper, .inl same⟩
  · obtain ⟨low, high, moved⟩ := steppedCirc_bounds
      (by simpa using lower) (by simpa using upper) stepped
    exact ⟨least ▸ order, low, high, .inr (by simpa using moved)⟩

/-! ### The speed of a sample -/

/-- Settles O40: the oldest of the four distances leaves as the sample's own joins. -/
theorem sampleSpeed_eq_sum : Obligations.SampleSpeed := by
  intro d a b e f dists
  refine ⟨?_, rfl, ?_⟩
  · simp [sampleSpeed, dists]
  · simp [sampleSpeed, dists, Config.maxSpeed, add_assoc]

/-! ### A position on the line -/

theorem clampTo_le (n : Nat) (p : Int) : (clampTo n p).1 ≤ n := by
  unfold clampTo
  split
  · exact Nat.zero_le n
  · split
    · exact le_refl n
    · dsimp only
      omega

theorem clampTo_inside {n : Nat} {p : Int} (start : 0 ≤ p) (stop : p ≤ n) :
    clampTo n p = (p.toNat, false) := by
  rw [clampTo, if_neg (not_lt.mpr start), if_neg (not_lt.mpr stop)]

theorem clampTo_before {n : Nat} {p : Int} (h : p < 0) : clampTo n p = (0, true) := if_pos h

theorem clampTo_beyond {n : Nat} {p : Int} (h : (n : Int) < p) : clampTo n p = (n, true) := by
  rw [clampTo, if_neg (by omega), if_pos h]

/-- A known position on a filled profile after a distance with a direction (R41 to R43). -/
theorem movePosition_known {d : Device} (known : d.odu.known = true)
    (filled : d.prs.cur.segments ≠ []) (wheel : Bool) (mag : Nat) (dir : Dir) :
    (movePosition wheel mag (some dir) d).odu =
      { d.odu with
        dir := some dir
        wheelRun := if wheel then d.odu.wheelRun + mag else d.odu.wheelRun
        position := (clampTo d.prs.cur.lineLength.toNat (movedBy dir d.odu.position mag)).1
        clamp := d.odu.clamp
          || (clampTo d.prs.cur.lineLength.toNat (movedBy dir d.odu.position mag)).2 } := by
  unfold movePosition
  dsimp only
  rw [if_pos known, if_neg fun h => filled h.2]
  rfl

/-- Settles O37: the clamp is read off for a point on the line, before it and beyond it. -/
theorem positionIsClamped : Obligations.PositionIsClamped := by
  intro d wheel mag dir known filled
  dsimp only
  rw [movePosition_known known filled]
  refine ⟨clampTo_le _ _, known, rfl, fun start stop => ?_, fun before => ?_, fun beyond => ?_, rfl⟩
  · simp [clampTo_inside start stop, start]
  · simp [clampTo_before before]
  · simp [clampTo_beyond beyond]

end Sys2Proof.Machine
end

section
/-! What an operation leaves of the odometry record: the place of the car, the standstill indication with
its counts, and the bogies' states. -/

namespace Sys2Proof.Machine

/-! ### The parts of the record -/

/-- Where the record has the car (R40, R43 to R45). -/
def Odu.place (o : Odu) := (o.known, o.position, o.conflict, o.clamp, o.lastMarker)

/-- What U is formed from (R42). -/
def Odu.base (o : Odu) := (o.uBase, o.wheelRun)

/-- The standstill indication with what it is judged by (R55). -/
def Odu.stillness (o : Odu) := (o.standstill, o.quiet, o.edgeSince)

/-- An edge has been counted and no sample has been since (R55). -/
def Odu.edgeCounted (o : Odu) : Prop := o.stillness = (false, 0, true)

/-! ### Operations that leave the whole record -/

@[simp] theorem notify_odu (n : Notice) (d : Device) : (notify n d).odu = d.odu := (notify_keeps n d).odu

@[simp] theorem setCondition_odu (src : Source) (b : Bool) (d : Device) :
    (setCondition src b d).odu = d.odu := (setCondition_keeps src b d).odu

@[simp] theorem bdtEvent_odu (f : List Entry → List Entry) (d : Device) :
    (bdtEvent f d).odu = d.odu := (bdtEvent_keeps f d).odu

@[simp] theorem rackEntryTest_odu (d : Device) : (rackEntryTest d).odu = d.odu :=
  (rackEntryTest_keeps d).odu

@[simp] theorem rollawayTest_odu (d : Device) : (rollawayTest d).odu = d.odu := (rollawayTest_keeps d).odu

@[simp] theorem testMovement_odu (n : Nat) (d : Device) : (testMovement n d).odu = d.odu :=
  (testMovement_keeps n d).odu

@[simp] theorem refreshModeEntry_odu (d : Device) : (refreshModeEntry d).odu = d.odu :=
  (refreshModeEntry_keeps d).odu

@[simp] theorem positionChanged_odu (d : Device) : (positionChanged d).odu = d.odu :=
  (positionChanged_keeps d).odu

@[simp] theorem judgeRelease_odu (d : Device) : (judgeRelease d).odu = d.odu := (judgeRelease_keeps d).odu

@[simp] theorem judgeShadow_odu (d : Device) : (judgeShadow d).odu = d.odu := (judgeShadow_keeps d).odu

@[simp] theorem finish_odu (d : Device) : (finish d).odu = d.odu := by
  obtain ⟨-, -, odu, -⟩ := finish_blocks d
  exact odu

@[simp] theorem testStandstillLost_odu (d : Device) : (testStandstillLost d).odu = d.odu := by
  unfold testStandstillLost
  split
  · split
    · rfl
    · exact (endTest_keeps _ _ d).odu
  · rfl

@[simp] theorem judgeDoorsMoving_odu (d : Device) : (judgeDoorsMoving d).odu = d.odu := by
  unfold judgeDoorsMoving
  split <;> simp

@[simp] theorem standstillCleared_odu (d : Device) : (standstillCleared d).odu = d.odu := by
  simp [standstillCleared]

/-! ### The choice of the source -/

/-- A choice that leaves the source as it was leaves the record. -/
theorem chooseSource_same {d : Device} (h : (chooseSource d).odu.source = d.odu.source) :
    chooseSource d = d := by
  unfold chooseSource at h ⊢
  dsimp only at h ⊢
  split
  · rfl
  · rename_i changed
    rw [if_neg changed] at h
    split at h <;> exact absurd h changed

theorem chooseSource_keeps_record (d : Device) : (chooseSource d).odu.place = d.odu.place
    ∧ (chooseSource d).odu.stillness = d.odu.stillness
    ∧ (chooseSource d).odu.bogies = d.odu.bogies := by
  unfold chooseSource
  dsimp only
  split
  · exact ⟨rfl, rfl, rfl⟩
  · split <;> exact ⟨rfl, rfl, rfl⟩

/-! ### A change of mesh states, and a placement -/

@[simp] theorem meshChanged_place (d : Device) : (meshChanged d).odu.place = d.odu.place := by
  rw [meshChanged, rackEntryTest_odu]
  exact (chooseSource_keeps_record d).1

@[simp] theorem meshChanged_stillness (d : Device) :
    (meshChanged d).odu.stillness = d.odu.stillness := by
  obtain ⟨-, still, -⟩ := chooseSource_keeps_record d
  rw [meshChanged, rackEntryTest_odu]
  exact still

/-- A change of mesh states widens U only at a switch of the source (R42). -/
theorem meshChanged_base {d : Device} (h : (meshChanged d).odu.source = d.odu.source) :
    (meshChanged d).odu.base = d.odu.base := by
  rw [meshChanged, rackEntryTest_odu] at h ⊢
  have same : chooseSource d = d := chooseSource_same h
  rw [same]
  rfl

/-- What follows a change of mesh states may clear missing-rack runs; the states stay. -/
theorem meshChanged_state (w : Bogie) (d : Device) :
    ((meshChanged d).odu.bogies.get w).state = (d.odu.bogies.get w).state := by
  have reset : ∀ (x : Device) (v : Bogie) (m : MeshRec), (resetShallow x v m).state = m.state := by
    intro x v m
    unfold resetShallow
    split <;> rfl
  obtain ⟨-, -, bogies⟩ := chooseSource_keeps_record d
  rw [meshChanged, rackEntryTest_odu, ← bogies]
  cases w <;> exact reset _ _ _

@[simp] theorem placeBogies_place (d : Device) : (placeBogies d).odu.place = d.odu.place := by
  unfold placeBogies
  dsimp only
  split
  · rfl
  · exact meshChanged_place _

@[simp] theorem placeBogies_stillness (d : Device) :
    (placeBogies d).odu.stillness = d.odu.stillness := by
  unfold placeBogies
  dsimp only
  split
  · rfl
  · exact meshChanged_stillness _

theorem placeBogies_base {d : Device} (h : (placeBogies d).odu.source = d.odu.source) :
    (placeBogies d).odu.base = d.odu.base := by
  unfold placeBogies at h ⊢
  dsimp only at h ⊢
  split
  · rfl
  · rename_i changed
    rw [if_neg changed] at h
    exact meshChanged_base h

@[simp] theorem placeAgain_place (d : Device) : (placeAgain d).odu.place = d.odu.place := by
  simp [placeAgain]

@[simp] theorem placeAgain_stillness (d : Device) : (placeAgain d).odu.stillness = d.odu.stillness := by
  simp [placeAgain]

theorem placeAgain_base {d : Device} (h : (placeAgain d).odu.source = d.odu.source) :
    (placeAgain d).odu.base = d.odu.base := by
  rw [placeAgain, positionChanged_odu] at h ⊢
  exact placeBogies_base h

/-! ### The standstill indication through mesh, calibration and distance -/

theorem ite_stillness {p : Prop} [Decidable p] {d e f : Device}
    (h : e.odu.stillness = d.odu.stillness) (k : f.odu.stillness = d.odu.stillness) :
    (if p then e else f).odu.stillness = d.odu.stillness := by
  split
  · exact h
  · exact k

@[simp] theorem setMesh_stillness (w : Bogie) (m : MeshRec) (d : Device) :
    (setMesh w m d).odu.stillness = d.odu.stillness := rfl

@[simp] theorem faultBogie_stillness (w : Bogie) (d : Device) :
    (faultBogie w d).odu.stillness = d.odu.stillness := by
  rw [faultBogie, positionChanged_odu, meshChanged_stillness, setCondition_odu]
  rfl

@[simp] theorem endMeshWindow_stillness (w : Bogie) (m : MeshRec) (d : Device) :
    (endMeshWindow w m d).odu.stillness = d.odu.stillness := by
  unfold endMeshWindow
  exact ite_stillness (setMesh_stillness _ _ d) (faultBogie_stillness w d)

@[simp] theorem rackToothMesh_stillness (w : Bogie) (d : Device) :
    (rackToothMesh w d).odu.stillness = d.odu.stillness := by
  unfold rackToothMesh
  dsimp only
  split
  · rfl
  · rfl
  · exact ite_stillness (by rw [positionChanged_odu, meshChanged_stillness]; rfl) rfl
  · exact ite_stillness (endMeshWindow_stillness w _ d) rfl

@[simp] theorem pinionToothMesh_stillness (w : Bogie) (d : Device) :
    (pinionToothMesh w d).odu.stillness = d.odu.stillness := by
  unfold pinionToothMesh
  dsimp only
  split <;> rfl

@[simp] theorem missingRack_stillness (n : Nat) (w : Bogie) (d : Device) :
    (missingRack n w d).odu.stillness = d.odu.stillness := by
  unfold missingRack
  exact ite_stillness (ite_stillness (faultBogie_stillness w d) rfl) rfl

@[simp] theorem castVote_stillness (c : CarConfig) (k : Calib) (v : Leaning) (d : Device) :
    (castVote c k v d).odu.stillness = d.odu.stillness := by
  unfold castVote
  dsimp only
  split
  · split
    · rfl
    · rw [notify_odu]
      rfl
  · rfl

@[simp] theorem endCalWindow_stillness (n : Nat) (d : Device) :
    (endCalWindow n d).odu.stillness = d.odu.stillness := by
  unfold endCalWindow
  dsimp only
  split
  · split
    · rw [castVote_stillness]
      rfl
    · rfl
  · rfl

@[simp] theorem calTooth_stillness (x : Sense) (d : Device) :
    (calTooth x d).odu.stillness = d.odu.stillness := by
  unfold calTooth
  split
  · rfl
  · split
    · rfl
    · split
      · rfl
      · split
        · exact endCalWindow_stillness _ d
        · rfl

@[simp] theorem calPulse_stillness (x : Sense) (d : Device) :
    (calPulse x d).odu.stillness = d.odu.stillness := by
  unfold calPulse
  split
  · rfl
  · split <;> rfl

@[simp] theorem movePosition_stillness (b : Bool) (n : Nat) (x : Option Dir) (d : Device) :
    (movePosition b n x d).odu.stillness = d.odu.stillness := by
  unfold movePosition
  dsimp only
  split
  · split
    · rfl
    · exact ite_stillness rfl rfl
  · rfl

@[simp] theorem takeDistance_stillness (b : Bool) (n : Nat) (x : Option Dir) (d : Device) :
    (takeDistance b n x d).odu.stillness = d.odu.stillness := by
  have moved : ∀ e : Device, (rollawayDistance n x e).odu.stillness = e.odu.stillness := by
    intro e
    unfold rollawayDistance
    dsimp only
    rw [rollawayTest_odu]
    rfl
  rw [takeDistance, moved, testMovement_odu, placeAgain_stillness, movePosition_stillness]
  rfl

/-! ### An edge -/

@[simp] theorem sourceTooth_stillness (w : Bogie) (x : Sense) (d : Device) :
    (sourceTooth w x d).odu.stillness = d.odu.stillness := by
  unfold sourceTooth
  dsimp only
  split <;> split <;> simp

/-- Every counted edge clears the indication and restarts the quiet count (R55). -/
theorem countEdge_edgeCounted (d : Device) : (countEdge d).odu.edgeCounted := by
  unfold countEdge Odu.edgeCounted
  dsimp only
  split
  · rw [standstillCleared_odu]
    rfl
  · rfl

theorem rackTooth_edgeCounted (w : Bogie) (x : Sense) (d : Device) :
    (rackTooth w x d).odu.edgeCounted := by
  have meshed : (rackToothMesh w (countEdge d)).odu.edgeCounted :=
    (rackToothMesh_stillness w _).trans (countEdge_edgeCounted d)
  unfold rackTooth
  dsimp only
  split
  · exact (sourceTooth_stillness w x _).trans meshed
  · exact meshed

theorem pinionTooth_edgeCounted (w : Bogie) (d : Device) : (pinionTooth w d).odu.edgeCounted :=
  (pinionToothMesh_stillness w _).trans (countEdge_edgeCounted d)

theorem wheelPulse_edgeCounted (x : Sense) (d : Device) : (wheelPulse x d).odu.edgeCounted := by
  have counted : (calPulse x (countEdge d)).odu.edgeCounted :=
    (calPulse_stillness x _).trans (countEdge_edgeCounted d)
  unfold wheelPulse
  dsimp only
  split
  · have judged := fun (n : Nat) (r : Int) =>
      (missingRack_stillness n .b _).trans ((missingRack_stillness n .a { calPulse x (countEdge d) with
        odu := { (calPulse x (countEdge d)).odu with remainder := r } }).trans counted)
    split
    · exact (takeDistance_stillness _ _ _ _).trans (judged _ _)
    · exact judged _ _
  · exact counted

end Sys2Proof.Machine
end

section
/-! The edges, the marker read and the mesh window: O35, O38, O39. -/

namespace Sys2Proof.Machine

/-! ### Edges -/

theorem Odu.edgeCounted_iff (o : Odu) :
    o.edgeCounted ↔ o.standstill = false ∧ o.quiet = 0 ∧ o.edgeSince = true := by
  simp [Odu.edgeCounted, Odu.stillness]

theorem rackTooth_other {w : Bogie} {d : Device} (x : Sense) (h : d.odu.source ≠ .rack w) :
    rackTooth w x d = rackToothMesh w (countEdge d) := by simp [rackTooth, h]

theorem rackTooth_source {w : Bogie} {d : Device} (x : Sense) (h : d.odu.source = .rack w) :
    rackTooth w x d = sourceTooth w x (rackToothMesh w (countEdge d)) := by simp [rackTooth, h]

/-- The tooth that ends a mesh window is a rack tooth (R50, log 4). -/
theorem meshWindowTooth_last {w : Bogie} {d : Device} (x : Sense)
    (meshed : (d.odu.bogies.get w).state = .meshed) (last : 31 ≤ (d.odu.bogies.get w).rackCount) :
    meshWindowTooth w x d = rackTooth w x d := if_pos ⟨meshed, Nat.succ_le_succ last⟩

/-- The tooth that ends a calibration window is a rack tooth of the window's sense (R57, log 4). -/
theorem calibrationTooth_last {w : Bogie} {d : Device} {x : CalWindow} (own : d.odu.source = .rack w)
    (window : d.odu.window = some x) (last : 63 ≤ x.teeth) :
    calibrationTooth d = rackTooth w x.sense d := by
  rw [calibrationTooth, own, window]
  exact if_pos (Nat.succ_le_succ last)

/-- What the operation of a command leaves of the odometry record, the command leaves. -/
theorem odu_of_up {s t : State} (up : s.dev.bau.watch ≠ .cutoff) {f : Device → Device}
    (h : become s (whenUp f s.dev) = .next t) : t.dev.odu = (f s.dev).odu := by
  rw [become_up up rfl] at h
  obtain rfl := Host.Outcome.next.inj h
  exact finish_odu _

/-- Settles O35: each edge runs its operation, and none of what follows the count touches standstill. -/
theorem edgesComplete : Obligations.EdgesComplete := by
  intro s up
  refine ⟨fun w x other => become_up up (rackTooth_other x other),
    fun w x own => become_up up (rackTooth_source x own), fun w x => become_up up rfl,
    fun x => become_up up rfl, fun w x meshed last => ?_, fun w x own window last => ?_,
    fun m => become_up up rfl, fun c t edge answer => ?_⟩
  · exact (become_up up (meshWindowTooth_last x meshed last)).trans (become_up up rfl).symm
  · exact (become_up up (calibrationTooth_last own window last)).trans (become_up up rfl).symm
  · rw [← Odu.edgeCounted_iff]
    rcases edge with ⟨w, x, rfl⟩ | ⟨w, x, rfl⟩ | ⟨x, rfl⟩
    · rw [odu_of_up (f := rackTooth w x) up answer]
      exact rackTooth_edgeCounted w x s.dev
    · rw [odu_of_up (f := pinionTooth w) up answer]
      exact pinionTooth_edgeCounted w s.dev
    · rw [odu_of_up (f := wheelPulse x) up answer]
      exact wheelPulse_edgeCounted x s.dev

/-! ### The marker read -/

/-- The record that a marker sets, through the placement (R44, R45). -/
theorem setByMarker_place (c : CarConfig) (f : Dir) (m : MarkerRec) (conflict clamp : Bool)
    (d : Device) : (setByMarker c f m conflict clamp d).odu.place =
      (true, (clampTo d.prs.cur.lineLength.toNat (positionFor c f m.chainage.toNat c.reader)).1,
        conflict,
        clamp || (clampTo d.prs.cur.lineLength.toNat (positionFor c f m.chainage.toNat c.reader)).2,
        some m.identity) := by
  rw [setByMarker, judgeShadow_odu, placeAgain_place]
  rfl

/-- U starts from the marker's accuracy (R44), unless the placement switches the source. -/
theorem setByMarker_base {c : CarConfig} {f : Dir} {m : MarkerRec} {conflict clamp : Bool} {d : Device}
    (h : (setByMarker c f m conflict clamp d).odu.source = d.odu.source) :
    (setByMarker c f m conflict clamp d).odu.base = (m.accuracy.toNat, 0) := by
  rw [setByMarker, judgeShadow_odu] at h ⊢
  rw [placeAgain_base h]
  rfl

/-- A read of a marker on the profile sets the record; a known position that it contradicts leaves a
conflict (R45). -/
theorem readMarker_found {d : Device} {id : BitVec 16} {f : Dir} {c : CarConfig} {m : MarkerRec}
    (orientation : d.mdc.orientation = some f) (config : d.mdc.config = some c)
    (found : d.prs.cur.marker id = some m) :
    ∃ clamp, readMarker id d = setByMarker c f m (d.odu.known && !markerAgrees c f m d) clamp d := by
  unfold readMarker
  rw [orientation, config]
  dsimp only
  rw [found]
  dsimp only
  split
  · rename_i known
    split
    · rename_i agrees
      exact ⟨false, by rw [known, agrees]; rfl⟩
    · rename_i differs
      exact ⟨d.odu.clamp, by rw [known, Bool.eq_false_iff.mpr differs]; rfl⟩
  · rename_i unknown
    exact ⟨false, by rw [Bool.eq_false_iff.mpr unknown]; rfl⟩

/-- Settles O38: the record the marker sets, field by field. -/
theorem markerRead : Obligations.MarkerRead := by
  intro d id
  refine ⟨fun missing => ?_, fun f c orientation config => ⟨fun unknown => ?_, fun m found => ?_⟩⟩
  · rcases missing with unset | blank
    · rw [readMarker, unset]
    · rw [readMarker, blank]
      cases d.mdc.orientation <;> rfl
  · rw [readMarker, orientation, config]
    dsimp only
    rw [unknown]
  · obtain ⟨clamp, read⟩ := readMarker_found orientation config found
    rw [read]
    have place := setByMarker_place c f m (d.odu.known && !markerAgrees c f m d) clamp d
    simp only [Odu.place, Prod.mk.injEq] at place
    obtain ⟨known, position, conflict, -, last⟩ := place
    refine ⟨known, last, fun start stop => ?_, ?_, fun source => ?_⟩
    · rw [position, clampTo_inside start stop]
      exact Int.toNat_of_nonneg start
    · rw [conflict]
      simp [markerAgrees]
    · have base := setByMarker_base source
      simp only [Odu.base, Prod.mk.injEq] at base
      exact base

/-! ### The mesh window -/

/-- The entries that a change of mode can write (R1, R2, R64), beside those of a running test. -/
def Source.ofModeChange : List Source := [.mode, .overspeedSb, .overspeedEb, .authority]

theorem changeMode_other {x : Source} (apart : x.apartFromTests) (hx : x ∉ Source.ofModeChange)
    (m : Mode) (d : Device) : KeepsEntries x d (changeMode m d) := by
  simp only [Source.ofModeChange, List.mem_cons, not_or] at hx
  obtain ⟨mode, supervisor⟩ := hx
  by_cases same : d.mdc.mode = m
  · rw [changeMode, if_pos same]
    exact .refl x d
  · have announced : KeepsEntries x d (announceMode (d.inMode m)) :=
      (raiseWith_other apart mode _ _ (d.inMode m)).trans
        (.of_bdt ((callPosition_bdt _).trans (notify_bdt _ _)))
    have closing : ∀ e, KeepsEntries x e (rollawayTest (judgeRelease e)) := fun e =>
      (KeepsEntries.of_bdt (judgeRelease_queues e).bdt).trans (rollawayTest_other apart _)
    rw [changeMode_eq m d same]
    split
    · exact (announced.trans (quietSupervisor_other apart (by simpa using supervisor) _)).trans
        (closing _)
    · exact announced.trans (closing _)

theorem reportCauses_other {x : Source} (apart : x.apartFromTests) (hx : x ∉ Source.ofModeChange)
    (d : Device) : KeepsEntries x d (reportCauses d) := by
  unfold reportCauses
  dsimp only
  split
  · exact .refl x d
  · split
    · exact .of_bdt (notify_bdt _ _)
    · exact changeMode_other apart hx _ _

theorem positionChanged_other {x : Source} (apart : x.apartFromTests) (position : x ≠ .position)
    (hx : x ∉ Source.ofModeChange) (d : Device) : KeepsEntries x d (positionChanged d) :=
  ((setCondition_other apart position _ d).trans (reportCauses_other apart hx _)).trans
    (.of_bdt (judgeRelease_queues _).bdt)

theorem meshChanged_other {x : Source} (apart : x.apartFromTests) (entry : x ≠ .rackEntry)
    (d : Device) : KeepsEntries x d (meshChanged d) := by
  have chosen : KeepsEntries x d (chooseSource d) := by
    unfold chooseSource
    dsimp only
    split <;> exact .of_bdt rfl
  have tested : ∀ e, KeepsEntries x e (rackEntryTest e) := by
    intro e
    unfold rackEntryTest
    split
    · exact .refl x e
    · split
      · exact setCondition_other apart entry _ e
      · split
        · exact setCondition_other apart entry _ e
        · exact .refl x e
  exact chosen.trans (tested (clearShallow (chooseSource d)))

theorem apart_mesh : Source.mesh.apartFromTests := by simp [Source.apartFromTests]

@[simp] theorem setMesh_get (w : Bogie) (m : MeshRec) (d : Device) :
    (setMesh w m d).odu.bogies.get w = m := by cases w <;> rfl

/-- A bogie in FAULT, with MESH present and no calibration window (R52, R57). -/
theorem faultBogie_holds (w : Bogie) {d : Device} (mem : ∃ e ∈ d.bdt.entries, e.src = .mesh) :
    ((faultBogie w d).odu.bogies.get w).state = .fault
      ∧ (faultBogie w d).bdt.present .mesh = true ∧ (faultBogie w d).odu.window = none := by
  unfold faultBogie
  dsimp only
  generalize written : ({ setMesh w (meshStart .fault) d with
    odu := { (setMesh w (meshStart .fault) d).odu with window := none } } : Device) = e
  refine ⟨?_, ?_, ?_⟩
  · rw [positionChanged_odu, meshChanged_state, setCondition_odu, ← written]
    exact congrArg MeshRec.state (setMesh_get w _ d)
  · rw [(positionChanged_other apart_mesh (by decide) (by decide) _).present,
      (meshChanged_other apart_mesh (by decide) _).present]
    exact setCondition_present .mesh true e apart_mesh rfl (by rw [← written]; exact mem)
  · rw [positionChanged_odu]
    refine (meshChanged_calibration _).2 ?_
    rw [setCondition_odu, ← written]

/-- The last rack tooth of a window ends it (R50). -/
theorem rackToothMesh_last {w : Bogie} {d : Device} (meshed : (d.odu.bogies.get w).state = .meshed)
    (last : (d.odu.bogies.get w).rackCount = 31) :
    rackToothMesh w d =
      endMeshWindow w { d.odu.bogies.get w with missing := 0, rackCount := 32 } d := by
  unfold rackToothMesh
  dsimp only
  rw [meshed, last]
  rfl

/-- With a configuration a window is judged by its tolerance (R50). -/
theorem endMeshWindow_configured {d : Device} {c : CarConfig} (config : d.mdc.config = some c)
    (w : Bogie) (m : MeshRec) :
    endMeshWindow w m d =
      if 32 ≤ m.pinionCount + c.meshTolerance ∧ m.pinionCount ≤ 32 + c.meshTolerance then
        setMesh w { m with rackCount := 0, pinionCount := 0 } d
      else faultBogie w d := by
  unfold endMeshWindow
  rw [config]
  simp only [Bool.and_eq_true, decide_eq_true_eq]
  rfl

/-- Settles O39: the window is judged by the pinion count, and a fault is what `faultBogie` leaves. -/
theorem meshWindowJudged : Obligations.MeshWindowJudged := by
  intro w d c config law meshed last
  obtain ⟨ordered, -⟩ := law
  dsimp only
  rw [rackToothMesh_last meshed last, endMeshWindow_configured config]
  refine ⟨fun low high => ?_, fun beyond => ?_⟩
  · rw [if_pos ⟨low, high⟩, setMesh_get, meshed]
  · rw [if_neg (by dsimp only; omega)]
    exact faultBogie_holds w (ordered.mem .mesh)

end Sys2Proof.Machine
end

section
/-! The speed sample, the standstill indication, SET_POSITION and the passenger alarm: O41. -/

namespace Sys2Proof.Machine

/-! ### The standstill indication is set -/

/-- The standstill indication set, its direction and the roll-away accumulators cleared (R55, R56). -/
def Odu.stopped (o : Odu) : Prop :=
  o.standstill = true ∧ o.dir = none ∧ o.reverseAcc = 0 ∧ o.anyAcc = 0

@[simp] theorem clearStartUpHold_odu (d : Device) : (clearStartUpHold d).odu = d.odu := by
  unfold clearStartUpHold
  split <;> simp

theorem clearStartUpHold_clears (d : Device) : (clearStartUpHold d).mdc.startUpHold = false := by
  unfold clearStartUpHold
  split
  · rw [(refreshModeEntry_keeps _).mdc]
  · rename_i off
    exact Bool.eq_false_iff.mpr off

/-- What ends a withdrawn authority leaves Mode Control and the odometry alone (R171). -/
theorem endWithdrawn_keeps (d : Device) :
    (endWithdrawn d).mdc = d.mdc ∧ (endWithdrawn d).odu = d.odu := by
  unfold endWithdrawn
  split
  · split
    · exact ⟨(rollawayTest_keeps _).mdc, (rollawayTest_keeps _).odu⟩
    · exact ⟨rfl, rfl⟩
  · exact ⟨rfl, rfl⟩

theorem setStandstill_stopped (d : Device) : (setStandstill d).odu.stopped := by
  obtain ⟨-, odu⟩ := endWithdrawn_keeps (refreshBrakes (clearGuard (bdtEvent id (clearStartUpHold
    (setCondition .rollaway false (setCondition .mesh false
      (zeroRollaway { d with odu := { d.odu with standstill := true, dir := none } })))))))
  rw [setStandstill, odu, (refreshBrakes_keeps _).odu, clearGuard_odu, bdtEvent_odu,
    clearStartUpHold_odu, setCondition_odu, setCondition_odu]
  exact ⟨rfl, rfl, rfl, rfl⟩

theorem setStandstill_startUpHold (d : Device) : (setStandstill d).mdc.startUpHold = false := by
  unfold setStandstill
  dsimp only
  rw [(endWithdrawn_keeps _).1, (refreshBrakes_keeps _).mdc, clearGuard_mdc, (bdtEvent_keeps _ _).mdc]
  exact clearStartUpHold_clears _

theorem twentiethQuiet_sets {d : Device} (moving : d.odu.standstill = false)
    (noEdge : d.odu.edgeSince = false) (quiet : 19 ≤ d.odu.quiet) :
    twentiethQuiet d = setStandstill { d with odu := { d.odu with quiet := Config.quietSamples } } :=
  if_pos ⟨by simp [moving], by simp [noEdge], Nat.succ_le_succ quiet⟩

/-! ### SET_POSITION -/

/-- The record that SET_POSITION sets, through the placement (R46). -/
theorem askSetPosition_accepted {x u : Nat} {d : Device}
    (good : firstFailure (positionChecks x u d) = none) :
    ∃ e, askSetPosition x u d = accept e ∧ e.odu.place = (true, x, false, false, d.odu.lastMarker) := by
  refine ⟨_, judged_accepted _ d good, ?_⟩
  rw [judgeShadow_odu, placeAgain_place]
  rfl

/-! ### The passenger alarm -/

theorem apart_passengerAlarm : Source.passengerAlarm.apartFromTests := by simp [Source.apartFromTests]

/-- An event on one source's entry puts what it makes of that entry into the table. -/
theorem mem_bdtEvent {src : Source} (apart : src.apartFromTests) {f : Entry → Entry}
    (hf : ∀ e, (f e).src = e.src) {d : Device} {e : Entry} (mem : e ∈ d.bdt.entries)
    (own : e.src = src) : f e ∈ (bdtEvent (onEntry src f) d).bdt.entries := by
  have told : f e ∈ (tableEvent (onEntry src f) d).bdt.entriesOf src := by
    rw [Bdt.mem_entriesOf, tableEvent_entries]
    exact ⟨List.mem_map.mpr ⟨e, mem, if_pos own⟩, (hf e).trans own⟩
  rw [← abortIfEmergency_other apart] at told
  exact (Bdt.mem_entriesOf.mp told).1

/-- A raise defers the passenger alarm over a no-stop zone and puts it in force elsewhere (R101). -/
theorem raiseEntry_alarm {e : Entry} (alarm : e.src = .passengerAlarm) (r : Raise) :
    (raiseEntry r e).state = if r.noStop then .deferred else .active := by
  unfold raiseEntry
  cases state : e.state <;> cases zone : r.noStop <;> simp [alarm, Source.carriesLevel]

/-- A clear takes the condition alone from a DEFERRED entry (R102). -/
theorem clearEntry_deferred {e : Entry} (cond : e.cond = true) (state : e.state = .deferred) :
    clearEntry e = { e with cond := false } := by
  simp [clearEntry, cond, state]

theorem judgeAlarmEntry_active {e : Entry} (state : e.state = .active) (noStop : Bool) :
    judgeAlarmEntry noStop e = { e with state := if noStop then .deferred else .active } := by
  cases noStop with
  | true => simp [judgeAlarmEntry, state]
  | false =>
    have kept : judgeAlarmEntry false e = e := by simp [judgeAlarmEntry, state]
    rw [kept, if_neg nofun, ← state]

theorem judgeAlarmEntry_deferred {e : Entry} (state : e.state = .deferred) :
    judgeAlarmEntry true e = e
      ∧ judgeAlarmEntry false e = { e with state := if e.cond then .active else .held } := by
  refine ⟨by simp [judgeAlarmEntry, state], ?_⟩
  cases cond : e.cond <;> simp [judgeAlarmEntry, state, cond]

theorem judgeAlarmEntry_other {e : Entry} (state : e.state = .idle ∨ e.state = .held) (noStop : Bool) :
    judgeAlarmEntry noStop e = e := by
  rcases state with state | state <;> rw [judgeAlarmEntry, state]

/-- Settles O41: the sample runs its readers in order, the two commands set what their operations set, and
the alarm's entry is what the raise, the clear and the sample make of it. -/
theorem samplesComplete : Obligations.SamplesComplete := by
  refine ⟨fun s up => ⟨fun h f => become_up up rfl, fun moving noEdge quiet => ?_,
    fun q x u taken good => ?_⟩, fun d e mem own => ?_⟩
  · refine ⟨_, become_up up (twentiethQuiet_sets moving noEdge quiet), ?_⟩
    obtain ⟨standstill, dir, reverse, any⟩ := setStandstill_stopped
      { s.dev with odu := { s.dev.odu with quiet := Config.quietSamples } }
    obtain ⟨mdc, -, odu, -⟩ := finish_blocks (setStandstill
      { s.dev with odu := { s.dev.odu with quiet := Config.quietSamples } })
    rw [State.put_dev, mdc, odu]
    exact ⟨standstill, dir, reverse, any, setStandstill_startUpHold _⟩
  · obtain ⟨e, accepted, place⟩ := askSetPosition_accepted good
    obtain ⟨-, -, odu⟩ := replied_keeps s q none .nothing e
    refine ⟨_, request_accepted taken accepted, ?_⟩
    simp only [Odu.place, Prod.mk.injEq, (validFrame_keeps s.dev).odu] at place
    obtain ⟨known, position, conflict, clamp, last⟩ := place
    rw [odu]
    exact ⟨known, position, conflict, clamp, last⟩
  · have sampled : judgeAlarmEntry (overNoStop d) e ∈ (judgeAlarm d).bdt.entries :=
      mem_bdtEvent apart_passengerAlarm (judgeAlarmEntry_src _) mem own
    refine ⟨fun absent => ?_, fun cond state => ?_, fun state => ?_, fun state zone => ?_,
      fun state zone => ?_, fun state => ?_⟩
    · refine ⟨raiseEntry (raiseOf .none none d) e, ?_, (raiseEntry_src _ e).trans own,
        raiseEntry_cond _ e, raiseEntry_alarm own _⟩
      rw [setCondition, if_pos ⟨rfl, by simp [absent]⟩]
      exact mem_bdtEvent apart_passengerAlarm (raiseEntry_src _) mem own
    · have present : d.bdt.present .passengerAlarm = true :=
        List.any_eq_true.mpr ⟨e, mem, by simp [own, cond]⟩
      rw [← clearEntry_deferred cond state, setCondition, if_neg (by simp),
        if_pos ⟨by simp, present⟩]
      exact mem_bdtEvent apart_passengerAlarm clearEntry_src mem own
    · rwa [judgeAlarmEntry_active state] at sampled
    · rwa [zone, (judgeAlarmEntry_deferred state).1] at sampled
    · rwa [zone, (judgeAlarmEntry_deferred state).2] at sampled
    · rwa [judgeAlarmEntry_other state] at sampled

end Sys2Proof.Machine
end

section
/-! The long queries: O47. -/

namespace Sys2Proof.Machine

/-! ### The parts -/

/-- Cut with enough fuel, the pieces are the bytes in order, full but for the last (R187). -/
theorem pieces_cut (fuel : Nat) (bytes : List Byte) (enough : bytes.length < fuel) :
    pieces fuel bytes ≠ [] ∧ (pieces fuel bytes).flatten = bytes
      ∧ (∀ b ∈ pieces fuel bytes, b.length ≤ 57)
      ∧ (∀ b ∈ (pieces fuel bytes).dropLast, b.length = 57) := by
  induction fuel generalizing bytes with
  | zero => exact absurd enough (Nat.not_lt_zero _)
  | succ fuel ih =>
    unfold pieces
    split
    · rename_i short
      exact ⟨by simp, by simp, by simpa using short, by simp⟩
    · rename_i long
      have full : (bytes.take 57).length = 57 := by
        rw [List.length_take]
        omega
      obtain ⟨some, whole, short, others⟩ := ih (bytes.drop 57) (by rw [List.length_drop]; omega)
      refine ⟨List.cons_ne_nil _ _, ?_, ?_, ?_⟩
      · rw [List.flatten_cons, whole, List.take_append_drop]
      · exact List.forall_mem_cons.mpr ⟨full.le, short⟩
      · rw [List.dropLast_cons_of_ne_nil some]
        exact List.forall_mem_cons.mpr ⟨full, others⟩

theorem partsOf_cut (v : Contents) :
    partsOf v ≠ [] ∧ (partsOf v).flatten = Config.queryBytes v
      ∧ (∀ b ∈ partsOf v, b.length ≤ 57) ∧ (∀ b ∈ (partsOf v).dropLast, b.length = 57) :=
  pieces_cut _ _ (Nat.lt_succ_self _)

/-- There is always a part 0 (log 23). -/
theorem partsOf_first (v : Contents) : ∃ b, (partsOf v)[0]? = some b := by
  obtain ⟨b, rest, h⟩ := List.exists_cons_of_ne_nil (partsOf_cut v).1
  exact ⟨b, by rw [h]; rfl⟩

/-! ### One query -/

/-- Part 0 of a long query takes the snapshot and answers its first part (R187). -/
theorem query_first {k : QueryKind} {f : Device → Contents} {d : Device} {b : List Byte}
    (kind : (f d).kind = k) (first : (partsOf (f d))[0]? = some b) :
    query k 0#8 f d = ⟨{ d with clp := { d.clp with snapshot := some (f d) } }, none,
      .part 0 (partsOf (f d)).length b⟩ := by
  rw [query, if_pos rfl, answerPart]
  dsimp only
  rw [if_pos kind, first]

/-- A later part is read from a snapshot of the query's own kind (R187). -/
theorem query_later {k : QueryKind} {n : Byte} (f : Device → Contents) {d : Device} {w : Contents}
    {b : List Byte} (later : n ≠ 0#8) (snapshot : d.clp.snapshot = some w) (kind : w.kind = k)
    (part : (partsOf w)[n.toNat]? = some b) :
    query k n f d = ⟨d, none, .part n.toNat (partsOf w).length b⟩ := by
  rw [query, if_neg later, answerPart, snapshot]
  dsimp only
  rw [if_pos kind, part]

/-- Behind the last part of a snapshot there is none (R187). -/
theorem query_beyond {k : QueryKind} {n : Byte} (f : Device → Contents) {d : Device} {w : Contents}
    (later : n ≠ 0#8) (snapshot : d.clp.snapshot = some w) (kind : w.kind = k)
    (part : (partsOf w)[n.toNat]? = none) : query k n f d = refuse .notFound d := by
  rw [query, if_neg later, answerPart, snapshot]
  dsimp only
  rw [if_pos kind, part]

/-- Without such a snapshot there is no later part (R187). -/
theorem query_notFound {k : QueryKind} {n : Byte} (f : Device → Contents) {d : Device}
    (later : n ≠ 0#8) (other : ∀ w, d.clp.snapshot = some w → w.kind ≠ k) :
    query k n f d = refuse .notFound d := by
  rw [query, if_neg later, answerPart]
  cases snapshot : d.clp.snapshot with
  | none => rfl
  | some w => exact if_neg (other w snapshot)

/-- The queue is all that a reply takes from the state before it. -/
@[simp] theorem put_replied (s : State) (e : Device) (q : Req) (r : Option Reason) (x : ReplyData)
    (d : Device) : (s.put e).replied q r x d = s.replied q r x d := rfl

/-- What R187 says of a long query that answers as `answer`, on the device that heard it. -/
def QueryAnswers (q : Req) (n : Byte) (s : State) (k : QueryKind) (v : Contents) (d : Device)
    (answer : Host.Outcome State Fault Refusal) : Prop :=
  (n = 0#8 → ∃ b, (partsOf v)[0]? = some b ∧ answer = .next (s.replied q none
      (.part 0 (partsOf v).length b) { d with clp := { d.clp with snapshot := some v } }))
  ∧ (∀ w, n ≠ 0#8 → d.clp.snapshot = some w → w.kind = k → answer = .next
      (match (partsOf w)[n.toNat]? with
       | some b => s.replied q none (.part n.toNat (partsOf w).length b) d
       | none => s.replied q (some .notFound) .nothing d))
  ∧ (n ≠ 0#8 → (∀ w, d.clp.snapshot = some w → w.kind ≠ k) →
      answer = .next (s.replied q (some .notFound) .nothing d))

/-- A command that runs a long query answers as R187 says. -/
theorem query_answers {q : Req} {s : State} (taken : Taken q s) {n : Byte} {k : QueryKind}
    {f : Device → Contents} {answer : Host.Outcome State Fault Refusal}
    (run : answer = become s (whenUp (request q (query k n f)) s.dev)) (kind : ∀ d, (f d).kind = k) :
    QueryAnswers q n s k (f (validFrame s.dev)) (validFrame s.dev) answer := by
  rw [run]
  refine ⟨fun first => ?_, fun w later snapshot own => ?_, fun later other => ?_⟩
  · subst first
    obtain ⟨b, part⟩ := partsOf_first (f (validFrame s.dev))
    exact ⟨b, part, request_answered taken (query_first (kind _) part)⟩
  · cases part : (partsOf w)[n.toNat]? with
    | some b => exact request_answered taken (query_later f later snapshot own part)
    | none => exact request_answered taken (query_beyond f later snapshot own part)
  · exact request_answered taken (query_notFound f later other)

/-- A frame leaves an accepted RESTART and the reply list as they are, so what a request needs to be taken
is read off before it. -/
theorem taken_iff (q : Req) (s : State) : Taken q s ↔ s.dev.bau.watch ≠ .cutoff
    ∧ s.dev.clp.restarting = false ∧ s.dev.clp.replies.length < replyRoom ∧ q.lengthFits = true := by
  have restarting : (validFrame s.dev).clp.restarting = s.dev.clp.restarting := by
    obtain ⟨l, b, port⟩ := (setCondition_works .linkSilent false { dropFrame s.dev with
      clp := { (dropFrame s.dev).clp with silence := linkTimer (dropFrame s.dev) } }).ports.port
    rw [validFrame, hearFrame, port]
    rfl
  rw [Taken, restarting, validFrame_replies]

/-- GET_RADIO runs on the CARRIER line as the command finds it (log 26). -/
theorem getRadio_answers {q : Req} {s : State} (taken : Taken q s) (n : Byte) (carrier : Bool) :
    QueryAnswers q n s .radio (.radio (radioView (validFrame (withCarrier carrier s.dev))))
      (validFrame (withCarrier carrier s.dev)) (exec (.getRadio q n carrier) s) := by
  have found : Taken q (s.put (withCarrier carrier s.dev)) := by
    rw [taken_iff] at taken ⊢
    exact taken
  have answers := query_answers (answer := exec (.getRadio q n carrier) s) found
    (f := fun d => .radio (radioView d)) rfl fun _ => rfl
  simpa only [QueryAnswers, put_replied, State.put_dev] using answers

/-- Settles O47: each of the eight runs `query` with contents of its own kind. -/
theorem queriesComplete : Obligations.QueriesComplete := by
  refine ⟨fun q n s taken => ?_, partsOf_cut⟩
  intro answers d
  refine ⟨?_, ?_, ?_, ?_, ?_, ?_, ?_, getRadio_answers taken n⟩
  · exact query_answers (f := fun d => .odometry (odometryView d)) taken rfl fun _ => rfl
  · exact query_answers (f := fun d => .supervision d.ssv) taken rfl fun _ => rfl
  · exact query_answers (f := fun d => .demands (demandsView d)) taken rfl fun _ => rfl
  · exact query_answers (f := fun d => .test (testView d)) taken rfl fun _ => rfl
  · exact query_answers (f := fun d => .doors (doorsView d)) taken rfl fun _ => rfl
  · exact query_answers (f := fun d => .authority (authorityView d)) taken rfl fun _ => rfl
  · exact query_answers (f := fun d => .restrictions (restrictionsView d)) taken rfl fun _ => rfl

end Sys2Proof.Machine
end

section
/-! The laws right after reset: O4. -/

namespace Sys2Proof.Machine

/-- Settles O4: the reset state is a literal, so each law is evaluated on it. -/
theorem resetIsSafe : Obligations.ResetIsSafe where
  table := by unfold TableLaw Bdt.ordered Bdt.lawful; decide
  traction := by unfold TractionLaw; decide
  outbox := by unfold OutboxLaw; decide
  sets := by unfold SetsLaw; decide
  speed := by unfold SpeedLaw; decide
  rooms := by unfold RoomLaw; decide
  load := by unfold LoadLaw; decide
  outputs := by unfold OutputsLaw; decide
  release := fun _ => ⟨fun _ released => (nomatch released),
    fun n released => by cases n <;> cases released⟩
  doorHold := by
    refine ⟨by unfold Bdt.ordered; decide, by decide, by decide, fun n dwell => ?_, fun n => ?_⟩
    · cases n <;> exact absurd rfl dwell
    · cases n <;> exact Nat.zero_le 5
  service := by unfold ServiceLaw; decide

end Sys2Proof.Machine
end

section
/-! The arithmetic of an evaluation: the square root and the curve speed, the least of some values, the
ceiling, P and E with the most restrictive target, and the status: O43, O44 and O46. -/

namespace Sys2Proof.Machine

/-! ### The square root and the curve speed (R74) -/

theorem reactionDistance_eq (v t : Nat) : reactionDistance v t = (v * t + 999) / 1000 := by
  unfold reactionDistance ceilDiv
  omega

/-- Digit by digit, the root found so far with its remaining digits encloses the square root. -/
theorem isqrtBits_spec (k n r : Nat) (below : r * r ≤ n) (above : n < (r + 2 ^ k) * (r + 2 ^ k)) :
    isqrtBits k n r * isqrtBits k n r ≤ n
      ∧ n < (isqrtBits k n r + 1) * (isqrtBits k n r + 1) := by
  induction k generalizing r with
  | zero => exact ⟨below, above⟩
  | succ k ih =>
    unfold isqrtBits
    split
    next fits =>
      have doubled : r + 2 ^ (k + 1) = r + 2 ^ k + 2 ^ k := by ring
      exact ih _ fits (doubled ▸ above)
    next exceeds => exact ih r below (Nat.lt_of_not_le exceeds)

theorem isqrt_spec (n : Nat) : isqrt n * isqrt n ≤ n ∧ n < (isqrt n + 1) * (isqrt n + 1) := by
  refine isqrtBits_spec _ n 0 (Nat.zero_le n) ?_
  calc n < 2 ^ (n.log2 + 1) := Nat.lt_log2_self
    _ ≤ 2 ^ ((n.log2 / 2 + 1) + (n.log2 / 2 + 1)) := Nat.pow_le_pow_right (by decide) (by omega)
    _ = (0 + 2 ^ (n.log2 / 2 + 1)) * (0 + 2 ^ (n.log2 / 2 + 1)) := by rw [Nat.zero_add, Nat.pow_add]

theorem curveSpeed_near {v t d0 : Nat} (a vt : Nat) (near : d0 ≤ reactionDistance v t) :
    curveSpeed v t a d0 vt = vt := if_pos near

theorem curveSpeed_far {v t d0 : Nat} (a vt : Nat) (far : reactionDistance v t < d0) :
    curveSpeed v t a d0 vt
      = min 15000 (isqrt (vt * vt + 2 * a * (d0 - reactionDistance v t))) :=
  if_neg (Nat.not_le.mpr far)

/-- Settles O43: the rounding of `reactionDistance_eq`, and the root of `isqrt_spec` held at 15,000. -/
theorem curveSpeed_isRoot : Obligations.CurveSpeed := by
  intro v t a d0 vt
  have rounded := reactionDistance_eq v t
  refine ⟨by omega, curveSpeed_near a vt, fun far => ?_, fun _ _ _ => ⟨rfl, rfl⟩⟩
  obtain ⟨root_le, lt_next⟩ := isqrt_spec (vt * vt + 2 * a * (d0 - reactionDistance v t))
  rw [curveSpeed_far a vt far]
  generalize isqrt _ = root at root_le lt_next
  have held : min 15000 root ≤ root := min_le_right _ _
  refine ⟨min_le_left _ _, (Nat.mul_le_mul held held).trans root_le, ?_⟩
  rcases le_total root 15000 with small | large
  · exact .inl (by rwa [min_eq_right small])
  · exact .inr (min_eq_left large)

/-! ### The least of some values -/

theorem leastOf_isLeast (top : Nat) (values : List Nat) :
    leastOf top values ∈ top :: values ∧ ∀ v ∈ top :: values, leastOf top values ≤ v := by
  unfold leastOf
  induction values generalizing top with
  | nil => simp
  | cons x rest ih =>
    obtain ⟨mem, least⟩ := ih (min top x)
    have head := least _ List.mem_cons_self
    simp only [List.foldl_cons, List.mem_cons] at mem least ⊢
    constructor
    · rcases mem with isMin | isRest
      · exact (min_choice top x).imp isMin.trans fun h => .inl (isMin.trans h)
      · exact .inr (.inr isRest)
    · rintro v (rfl | rfl | isRest)
      · exact head.trans (min_le_left _ _)
      · exact head.trans (min_le_right _ _)
      · exact least v (.inr isRest)

theorem leastOf_le_top (top : Nat) (values : List Nat) : leastOf top values ≤ top :=
  (leastOf_isLeast top values).2 top List.mem_cons_self

theorem leastOf_le {values : List Nat} {v : Nat} (top : Nat) (h : v ∈ values) :
    leastOf top values ≤ v := (leastOf_isLeast top values).2 v (List.mem_cons_of_mem _ h)

theorem leastOf_mem (top : Nat) (values : List Nat) :
    leastOf top values = top ∨ leastOf top values ∈ values :=
  List.mem_cons.mp (leastOf_isLeast top values).1

/-! ### The ceiling (R66, R67) -/

/-- An extent that the span reaches. -/
def UnderSpan (d : Device) (span : Int × Int) (x : Extent) : Prop :=
  x ∈ d.prs.cur.extents ∧ (x.lo : Int) ≤ span.2 ∧ span.1 ≤ (x.hi : Int)

/-- A current restriction that overlaps the span and applies to the direction of travel (R67). -/
def OnSpan (d : Device) (dir : Dir) (span : Int × Int) (r : Restriction) : Prop :=
  r ∈ d.aru.current ∧ (r.start : Int) ≤ span.2 ∧ span.1 ≤ (r.stop : Int)
    ∧ (r.applies = .both ∨ (r.applies = .up ∧ dir = .up) ∨ (r.applies = .down ∧ dir = .down))

theorem mem_segmentsOver {p : Profile} {lo hi : Int} {g : Segment} : g ∈ p.segmentsOver lo hi ↔
    ∃ x ∈ p.extents, ((x.lo : Int) ≤ hi ∧ lo ≤ (x.hi : Int)) ∧ x.seg = g := by
  simp [Profile.segmentsOver, and_assoc]

theorem appliesTo_iff (r : Restriction) (dir : Dir) : r.appliesTo dir = true ↔
    r.applies = .both ∨ (r.applies = .up ∧ dir = .up) ∨ (r.applies = .down ∧ dir = .down) := by
  cases dir <;> simp [Restriction.appliesTo]

theorem overlaps_iff (r : Restriction) (span : Int × Int) :
    r.overlaps span = true ↔ (r.start : Int) ≤ span.2 ∧ span.1 ≤ (r.stop : Int) := by
  simp [Restriction.overlaps]

/-- The values of R66, one by one. -/
theorem mem_ceilingValues (c : CarConfig) (d : Device) (dir : Dir) (span : Int × Int) (v : Nat) :
    v ∈ ceilingValues c d (some dir) span ↔
      (∃ x, UnderSpan d span x ∧ v = effectiveLimit c x.seg dir)
      ∨ (∃ r, OnSpan d dir span r ∧ v = r.limit)
      ∨ (d.mdc.mode = .degraded ∧ v = c.degradedCeiling)
      ∨ (anyEntering d = true ∧ v = c.rackEntryLimit) := by
  have segments : v ∈ (d.prs.cur.segmentsOver span.1 span.2).map (spanLimit c (some dir)) ↔
      ∃ x, UnderSpan d span x ∧ v = effectiveLimit c x.seg dir := by
    simp only [List.mem_map, mem_segmentsOver, UnderSpan, spanLimit]
    constructor
    · rintro ⟨_, ⟨x, mem, reach, rfl⟩, rfl⟩
      exact ⟨x, ⟨mem, reach⟩, rfl⟩
    · rintro ⟨x, ⟨mem, reach⟩, rfl⟩
      exact ⟨x.seg, ⟨x, mem, reach, rfl⟩, rfl⟩
  have restrictions : v ∈ (d.aru.current.filter (fun r => r.overlaps span && r.appliesTo dir)).map
      (·.limit) ↔ ∃ r, OnSpan d dir span r ∧ v = r.limit := by
    simp only [List.mem_map, List.mem_filter, Bool.and_eq_true, overlaps_iff, appliesTo_iff, OnSpan,
      and_assoc, eq_comm (a := v)]
  have degraded : v ∈ (if d.mdc.mode = .degraded then [c.degradedCeiling] else []) ↔
      d.mdc.mode = .degraded ∧ v = c.degradedCeiling := by
    split <;> simp_all
  have entering : v ∈ (if anyEntering d then [c.rackEntryLimit] else []) ↔
      anyEntering d = true ∧ v = c.rackEntryLimit := by
    split <;> simp_all
  rw [← segments, ← restrictions, ← degraded, ← entering]
  simp only [ceilingValues, List.mem_append, or_assoc]

theorem evaluated_pc {c : CarConfig} {d : Device} {dir : Dir} {span : Int × Int}
    (placed : carSpan d = some span) (travel : travelDir d = some dir) :
    (evaluated c d).pc = leastOf 15000 (ceilingValues c d (some dir) span) := by
  simp only [evaluated, curvesOf, placed, travel]
  rfl

/-- Settles O44: P_c is the least of `mem_ceilingValues` and 15,000. -/
theorem ceilingIsLeast : Obligations.CeilingIsLeast := by
  intro c d dir span placed travel
  have values := mem_ceilingValues c d dir span
  dsimp only
  rw [evaluated_pc placed travel]
  refine ⟨fun x under => ?_, fun r on => ?_, fun degraded => ?_, fun entering => ?_,
    leastOf_le_top _ _, ?_⟩
  · exact leastOf_le _ ((values _).mpr (.inl ⟨x, under, rfl⟩))
  · exact leastOf_le _ ((values _).mpr (.inr (.inl ⟨r, on, rfl⟩)))
  · exact leastOf_le _ ((values _).mpr (.inr (.inr (.inl ⟨degraded, rfl⟩))))
  · exact leastOf_le _ ((values _).mpr (.inr (.inr (.inr ⟨entering, rfl⟩))))
  · rcases leastOf_mem 15000 (ceilingValues c d (some dir) span) with top | mem
    · exact .inr (.inr (.inr (.inr top)))
    · rcases (values _).mp mem with under | on | degraded | entering
      · exact .inl under
      · exact .inr (.inl on)
      · exact .inr (.inr (.inl degraded))
      · exact .inr (.inr (.inr (.inl entering)))

/-! ### P, E and the most restrictive target (R75) -/

/-- The least of a top value and of a value for each target: P and E alike. -/
theorem leastOf_map (top : Nat) (f : Target → Nat) (targets : List Target) :
    leastOf top (targets.map f) ≤ top ∧ (∀ t ∈ targets, leastOf top (targets.map f) ≤ f t)
      ∧ (leastOf top (targets.map f) = top ∨ ∃ t ∈ targets, leastOf top (targets.map f) = f t) := by
  refine ⟨leastOf_le_top _ _, fun t mem => leastOf_le _ (List.mem_map_of_mem mem), ?_⟩
  refine (leastOf_mem top (targets.map f)).imp_right fun mem => ?_
  obtain ⟨t, ht, value⟩ := List.mem_map.mp mem
  exact ⟨t, ht, value.symm⟩

/-- The place found for a value is the first at which a target has it. -/
theorem findIdx?_map_some {f : Target → Nat} {n i : Nat} {targets : List Target}
    (found : (targets.map f).findIdx? (fun s => s == n) = some i) :
    (∃ t, targets[i]? = some t ∧ f t = n)
      ∧ ∀ j u, j < i → targets[j]? = some u → f u ≠ n := by
  obtain ⟨short, here, before⟩ := List.findIdx?_eq_some_iff_getElem.mp found
  rw [List.length_map] at short
  refine ⟨⟨targets[i], List.getElem?_eq_getElem short, by simpa using here⟩, fun j u lt at_j => ?_⟩
  obtain ⟨_, rfl⟩ := List.getElem?_eq_some_iff.mp at_j
  simpa using before j lt

theorem findIdx?_map_none {f : Target → Nat} {n : Nat} {targets : List Target}
    (absent : (targets.map f).findIdx? (fun s => s == n) = none) : ∀ t ∈ targets, f t ≠ n := by
  simpa using absent

/-! ### The overspeed conditions (R77, R78) -/

/-- A condition is present above its margin, and stays present until the speed is at its limit. -/
theorem hysteresis_iff (present : Bool) (v limit margin : Nat) :
    hysteresis present v limit margin = true ↔
      limit + margin < v ∨ (present = true ∧ limit < v) := by
  unfold hysteresis
  split
  next above => simp [above]
  next within =>
    split
    next cleared => simp [within, Nat.not_lt.mpr cleared]
    next between => simp [within, Nat.lt_of_not_le between]

/-! ### The status (R76) -/

theorem evaluated_status (c : CarConfig) (d : Device) : (evaluated c d).status =
    if (evaluated c d).overspeedSb || (evaluated c d).overspeedEb then .intervention
    else if (evaluated c d).p < (evaluated c d).v then .warning else .normal := rfl

theorem evaluated_intervention_iff (c : CarConfig) (d : Device) :
    (evaluated c d).status = .intervention ↔
      (evaluated c d).overspeedSb = true ∨ (evaluated c d).overspeedEb = true := by
  rw [evaluated_status, ← Bool.or_eq_true]
  split
  next either => simp [either]
  next neither => split <;> simp [neither]

theorem evaluated_warning_iff (c : CarConfig) (d : Device) :
    (evaluated c d).status = .warning ↔
      (evaluated c d).overspeedSb = false ∧ (evaluated c d).overspeedEb = false
        ∧ (evaluated c d).p < (evaluated c d).v := by
  rw [evaluated_status, ← and_assoc, ← Bool.or_eq_false_iff]
  split
  next either => simp [either]
  next neither => split <;> simp_all

/-- Settles O46: the least of `leastOf_map` twice, the place of `findIdx?_map_some`, and the two
conditions of `hysteresis_iff`, from which the status follows. -/
theorem permittedSpeedAndStatus : Obligations.PermittedSpeedAndStatus := by
  refine ⟨fun c v pc gdOf targets => ?_, fun c d => ?_⟩
  · obtain ⟨p_le, p_least, p_mem⟩ :=
      leastOf_map pc (fun t => serviceCurve c v (decelsFor c (gdOf t)) t) targets
    obtain ⟨e_le, e_least, e_mem⟩ :=
      leastOf_map pc (fun t => emergencyCurve c v (decelsFor c (gdOf t)) t) targets
    exact ⟨p_le, p_least, p_mem, e_le, e_least, e_mem, fun _ => findIdx?_map_some,
      findIdx?_map_none⟩
  · exact ⟨rfl, hysteresis_iff _ _ _ _, hysteresis_iff _ _ _ _, evaluated_intervention_iff c d,
      evaluated_warning_iff c d⟩

/-! ### P and E under the ceiling -/

theorem resultOf_speeds_le (c : CarConfig) (v pc : Nat) (gdOf : Target → Nat) (targets : List Target) :
    (resultOf c v pc gdOf targets).p ≤ (resultOf c v pc gdOf targets).pc
      ∧ (resultOf c v pc gdOf targets).e ≤ (resultOf c v pc gdOf targets).pc :=
  ⟨leastOf_le_top _ _, leastOf_le_top _ _⟩

/-- An evaluation's record meets the law of the permitted speed, placed or not (R65, R75). -/
theorem evaluated_speeds_le (c : CarConfig) (d : Device) :
    (evaluated c d).p ≤ (evaluated c d).pc ∧ (evaluated c d).e ≤ (evaluated c d).pc := by
  change (curvesOf c d).p ≤ (curvesOf c d).pc ∧ (curvesOf c d).e ≤ (curvesOf c d).pc
  unfold curvesOf
  split
  · exact ⟨le_rfl, le_rfl⟩
  · exact resultOf_speeds_le _ _ _ _ _

end Sys2Proof.Machine
end

section
/-! The target list: one insertion, all candidates inserted, and the capacity: O45. -/

namespace Sys2Proof.Machine

/-! ### The order of a target list (R70, step 3) -/

/-- Targets nearest first, no two at one distance. -/
def Rises (l : List Target) : Prop := l.Pairwise (fun x y => x.distance < y.distance)

theorem Rises.cons_iff {x : Target} {l : List Target} :
    Rises (x :: l) ↔ (∀ u ∈ l, x.distance < u.distance) ∧ Rises l := List.pairwise_cons

/-- No two targets stand at one distance. -/
theorem Rises.eq_of_distance {l : List Target} (rises : Rises l) {x y : Target} (hx : x ∈ l)
    (hy : y ∈ l) (same : x.distance = y.distance) : x = y :=
  List.inj_on_of_nodup_map (f := Target.distance)
    (List.pairwise_map.mpr (rises.imp Nat.ne_of_lt)) hx hy same

/-- What a cut leaves behind lies beyond what it takes. -/
theorem Rises.take_lt_drop {l : List Target} (rises : Rises l) {n : Nat} {x y : Target}
    (hx : x ∈ l.take n) (hy : y ∈ l.drop n) : x.distance < y.distance := by
  rw [Rises, ← List.take_append_drop n l, List.pairwise_append] at rises
  obtain ⟨-, -, across⟩ := rises
  exact across x hx y hy

/-! ### One insertion (R70, step 2) -/

/-- What stands at the point of `t` once it is inserted: `t` itself, or what it makes with the target
already there. -/
def joined (t : Target) (l : List Target) : Target :=
  match l.find? (fun x => x.distance == t.distance) with
  | some x => mergeTarget x t
  | none => t

theorem joined_cons (t x : Target) (l : List Target) : joined t (x :: l) =
    if x.distance = t.distance then mergeTarget x t else joined t l := by
  unfold joined
  rw [List.find?_cons]
  by_cases here : x.distance = t.distance
  · rw [if_pos here, beq_iff_eq.mpr here]
  · rw [if_neg here, beq_eq_false_iff_ne.mpr here]

theorem joined_absent {t : Target} {l : List Target} (absent : ∀ x ∈ l, x.distance ≠ t.distance) :
    joined t l = t := by
  have none : l.find? (fun x => x.distance == t.distance) = none := by simpa using absent
  rw [joined, none]

theorem joined_present {t x : Target} {l : List Target} (rises : Rises l) (mem : x ∈ l)
    (same : x.distance = t.distance) : joined t l = mergeTarget x t := by
  induction l with
  | nil => cases mem
  | cons y l ih =>
    rw [joined_cons]
    split
    next here => rw [rises.eq_of_distance List.mem_cons_self mem (here.trans same.symm)]
    next other =>
      obtain ⟨-, tail⟩ := Rises.cons_iff.mp rises
      rcases List.mem_cons.mp mem with rfl | mem
      · exact absurd same other
      · exact ih tail mem

@[simp] theorem mergeTarget_distance (x t : Target) : (mergeTarget x t).distance = x.distance := rfl
@[simp] theorem mergeTarget_speed (x t : Target) : (mergeTarget x t).speed = min x.speed t.speed := rfl

theorem mergeTarget_maEnd {x t : Target} (h : x.kind = .maEnd ∨ t.kind = .maEnd) :
    (mergeTarget x t).kind = .maEnd := if_pos h

/-- A target joins the list at its own point, alone or merged with the one target that stands there. -/
theorem joined_cases {l : List Target} (rises : Rises l) (t : Target) :
    ((∀ x ∈ l, x.distance ≠ t.distance) ∧ joined t l = t)
      ∨ ∃ x ∈ l, x.distance = t.distance ∧ joined t l = mergeTarget x t := by
  by_cases present : ∃ x ∈ l, x.distance = t.distance
  · obtain ⟨x, mem, same⟩ := present
    exact .inr ⟨x, mem, same, joined_present rises mem same⟩
  · have absent : ∀ x ∈ l, x.distance ≠ t.distance := fun x mem same => present ⟨x, mem, same⟩
    exact .inl ⟨absent, joined_absent absent⟩

theorem joined_distance {l : List Target} (rises : Rises l) (t : Target) :
    (joined t l).distance = t.distance := by
  rcases joined_cases rises t with ⟨-, alone⟩ | ⟨x, -, same, merged⟩
  · rw [alone]
  · rw [merged, mergeTarget_distance, same]

theorem mem_insertTarget {l : List Target} (rises : Rises l) (t u : Target) :
    u ∈ insertTarget t l ↔ u = joined t l ∨ (u ∈ l ∧ u.distance ≠ t.distance) := by
  induction l with
  | nil => simp [insertTarget, joined]
  | cons x l ih =>
    obtain ⟨beyond, tail⟩ := Rises.cons_iff.mp rises
    unfold insertTarget
    split
    next before =>
      have far : ∀ y ∈ x :: l, y.distance ≠ t.distance := by
        rintro y (_ | ⟨_, mem⟩)
        · omega
        · have := beyond y mem
          omega
      rw [joined_absent far, List.mem_cons]
      exact or_congr_right ⟨fun mem => ⟨mem, far u mem⟩, And.left⟩
    next =>
      split
      next here =>
        have apart : u ∈ l → u.distance ≠ t.distance := fun mem => by
          have := beyond u mem
          omega
        rw [joined_cons, if_pos here.symm]
        simp only [List.mem_cons]
        constructor
        · exact Or.imp_right fun mem => ⟨.inr mem, apart mem⟩
        · rintro (merged | ⟨rfl | mem, ne⟩)
          · exact .inl merged
          · exact absurd here.symm ne
          · exact .inr mem
      next behind =>
        rw [joined_cons, if_neg (Ne.symm behind), List.mem_cons, List.mem_cons, ih tail]
        constructor
        · rintro (rfl | new | ⟨mem, ne⟩)
          · exact .inr ⟨.inl rfl, Ne.symm behind⟩
          · exact .inl new
          · exact .inr ⟨.inr mem, ne⟩
        · rintro (new | ⟨rfl | mem, ne⟩)
          · exact .inr (.inl new)
          · exact .inl rfl
          · exact .inr (.inr ⟨mem, ne⟩)

theorem insertTarget_rises {l : List Target} (rises : Rises l) (t : Target) :
    Rises (insertTarget t l) := by
  induction l with
  | nil => exact List.pairwise_singleton _ _
  | cons x l ih =>
    obtain ⟨beyond, tail⟩ := Rises.cons_iff.mp rises
    unfold insertTarget
    split
    next before =>
      refine Rises.cons_iff.mpr ⟨?_, rises⟩
      rintro y (_ | ⟨_, mem⟩)
      · exact before
      · exact before.trans (beyond y mem)
    next notBefore =>
      split
      · exact Rises.cons_iff.mpr ⟨beyond, tail⟩
      next behind =>
        refine Rises.cons_iff.mpr ⟨fun u mem => ?_, ih tail⟩
        rcases (mem_insertTarget tail t u).mp mem with rfl | ⟨old, -⟩
        · rw [joined_distance tail]
          omega
        · exact beyond u old

/-! ### All candidates inserted -/

/-- The list that some candidates make: in order, one target for each of their points, at the lowest
speed there, and an MA end where there is one (R70, steps 2 and 3). -/
structure Collects (seen l : List Target) : Prop where
  rises : Rises l
  source : ∀ u ∈ l, ∃ t ∈ seen, t.distance = u.distance ∧ t.speed = u.speed
  least : ∀ u ∈ l, ∀ t ∈ seen, t.distance = u.distance → u.speed ≤ t.speed
  point : ∀ t ∈ seen, ∃ u ∈ l, u.distance = t.distance
  maEnd : ∀ t ∈ seen, t.kind = .maEnd → ∃ u ∈ l, u.kind = .maEnd

theorem Collects.joined_source {seen l : List Target} (h : Collects seen l) (t : Target) :
    ∃ s ∈ t :: seen, s.distance = t.distance ∧ s.speed = (joined t l).speed := by
  rcases joined_cases h.rises t with ⟨-, alone⟩ | ⟨x, mem, same, merged⟩
  · exact ⟨t, List.mem_cons_self, rfl, by rw [alone]⟩
  · rw [merged, mergeTarget_speed]
    rcases min_choice x.speed t.speed with lower | lower
    · obtain ⟨s, hs, point, speed⟩ := h.source x mem
      exact ⟨s, List.mem_cons_of_mem _ hs, point.trans same, speed.trans lower.symm⟩
    · exact ⟨t, List.mem_cons_self, rfl, lower.symm⟩

theorem Collects.joined_least {seen l : List Target} (h : Collects seen l) (t : Target) :
    ∀ s ∈ t :: seen, s.distance = t.distance → (joined t l).speed ≤ s.speed := by
  intro s hs at_point
  rcases joined_cases h.rises t with ⟨absent, alone⟩ | ⟨x, mem, same, merged⟩
  · rw [alone]
    rcases List.mem_cons.mp hs with rfl | hs
    · exact le_rfl
    · obtain ⟨u, hu, point⟩ := h.point s hs
      exact absurd (point.trans at_point) (absent u hu)
  · rw [merged, mergeTarget_speed]
    rcases List.mem_cons.mp hs with rfl | hs
    · exact min_le_right _ _
    · exact (min_le_left _ _).trans (h.least x mem s hs (at_point.trans same.symm))

theorem Collects.joined_maEnd {seen l : List Target} (h : Collects seen l) {t : Target}
    (isEnd : t.kind = .maEnd ∨ ∃ u ∈ l, u.distance = t.distance ∧ u.kind = .maEnd) :
    (joined t l).kind = .maEnd := by
  rcases isEnd with new | ⟨u, mem, same, old⟩
  · rcases joined_cases h.rises t with ⟨-, alone⟩ | ⟨x, -, -, merged⟩
    · rw [alone, new]
    · rw [merged, mergeTarget_maEnd (.inr new)]
  · rw [joined_present h.rises mem same, mergeTarget_maEnd (.inl old)]

theorem Collects.insert {seen l : List Target} (h : Collects seen l) (t : Target) :
    Collects (t :: seen) (insertTarget t l) := by
  have mem := mem_insertTarget h.rises t
  have at_point := joined_distance h.rises t
  have new : joined t l ∈ insertTarget t l := (mem _).mpr (.inl rfl)
  refine ⟨insertTarget_rises h.rises t, fun u hu => ?_, fun u hu s hs same => ?_, fun s hs => ?_,
    fun s hs isEnd => ?_⟩
  · rcases (mem u).mp hu with rfl | ⟨old, -⟩
    · rw [at_point]
      exact h.joined_source t
    · obtain ⟨s, hs, found⟩ := h.source u old
      exact ⟨s, List.mem_cons_of_mem _ hs, found⟩
  · rcases (mem u).mp hu with rfl | ⟨old, apart⟩
    · exact h.joined_least t s hs (same.trans at_point)
    · rcases List.mem_cons.mp hs with rfl | hs
      · exact absurd same.symm apart
      · exact h.least u old s hs same
  · rcases List.mem_cons.mp hs with rfl | hs
    · exact ⟨_, new, at_point⟩
    · obtain ⟨u, hu, point⟩ := h.point s hs
      by_cases same : u.distance = t.distance
      · exact ⟨_, new, at_point.trans (same.symm.trans point)⟩
      · exact ⟨u, (mem u).mpr (.inr ⟨hu, same⟩), point⟩
  · rcases List.mem_cons.mp hs with rfl | hs
    · exact ⟨_, new, h.joined_maEnd (.inl isEnd)⟩
    · obtain ⟨u, hu, old⟩ := h.maEnd s hs isEnd
      by_cases same : u.distance = t.distance
      · exact ⟨_, new, h.joined_maEnd (.inr ⟨u, hu, same, old⟩)⟩
      · exact ⟨u, (mem u).mpr (.inr ⟨hu, same⟩), old⟩

theorem foldr_insertTarget_collects (seen : List Target) :
    Collects seen (seen.foldr insertTarget []) := by
  induction seen with
  | nil => exact ⟨.nil, nofun, nofun, nofun, nofun⟩
  | cons t seen ih => exact ih.insert t

/-! ### The capacity (R70, step 4) -/

/-- A list of more than 8 is cut to its first 8, or to its first 7 and the MA end behind them. -/
theorem capTargets_cases (l : List Target) :
    (l.length ≤ 8 ∧ capTargets l = l)
      ∨ (8 < l.length ∧ capTargets l = l.take 8 ∧ ∀ u ∈ l.drop 8, u.kind ≠ .maEnd)
      ∨ (8 < l.length ∧ ∃ t ∈ l.drop 8, t.kind = .maEnd ∧ capTargets l = l.take 7 ++ [t]) := by
  unfold capTargets
  split
  next fits => exact .inl ⟨fits, rfl⟩
  next exceeds =>
    have long : 8 < l.length := Nat.lt_of_not_le exceeds
    split
    next t found =>
      exact .inr (.inr ⟨long, t, List.mem_of_find?_eq_some found,
        by simpa using List.find?_some found, rfl⟩)
    next absent => exact .inr (.inl ⟨long, rfl, by simpa using absent⟩)

theorem capTargets_length (l : List Target) : (capTargets l).length ≤ 8 := by
  rcases capTargets_cases l with ⟨fits, whole⟩ | ⟨-, cut, -⟩ | ⟨-, t, -, -, cut⟩
  · rwa [whole]
  · rw [cut, List.length_take]
    exact min_le_left _ _
  · rw [cut, List.length_append, List.length_take]
    exact Nat.add_le_add_right (min_le_left _ _) 1

theorem capTargets_sublist (l : List Target) : (capTargets l).Sublist l := by
  rcases capTargets_cases l with ⟨-, whole⟩ | ⟨-, cut, -⟩ | ⟨-, t, mem, -, cut⟩
  · rw [whole]
  · rw [cut]
    exact List.take_sublist 8 l
  · have behind : [t].Sublist (l.drop 7) :=
      (List.singleton_sublist.mpr mem).trans (List.drop_sublist_drop_left l (by decide))
    rw [cut]
    exact ((List.Sublist.refl _).append behind).trans (by rw [List.take_append_drop])

theorem mem_take_or_drop {l : List Target} {u : Target} (n : Nat) (mem : u ∈ l) :
    u ∈ l.take n ∨ u ∈ l.drop n := by
  rwa [← List.mem_append, List.take_append_drop]

/-- An MA end stays on the list. -/
theorem capTargets_maEnd {l : List Target} (h : ∃ u ∈ l, u.kind = .maEnd) :
    ∃ u ∈ capTargets l, u.kind = .maEnd := by
  rcases capTargets_cases l with ⟨-, whole⟩ | ⟨-, cut, none⟩ | ⟨-, t, -, isEnd, cut⟩
  · rwa [whole]
  · obtain ⟨u, mem, isEnd⟩ := h
    refine ⟨u, ?_, isEnd⟩
    rw [cut]
    exact (mem_take_or_drop 8 mem).resolve_right fun behind => none u behind isEnd
  · exact ⟨t, by simp [cut], isEnd⟩

/-- A dropped target leaves a full list, and lies beyond all on it but the MA end. -/
theorem capTargets_dropped {l : List Target} (rises : Rises l) {t : Target} (mem : t ∈ l) :
    t ∈ capTargets l ∨ ((capTargets l).length = 8
      ∧ ∀ u ∈ capTargets l, u.kind ≠ .maEnd → u.distance < t.distance) := by
  rcases capTargets_cases l with ⟨-, whole⟩ | ⟨long, cut, -⟩ | ⟨long, x, -, isEnd, cut⟩
  · rw [whole]
    exact .inl mem
  · rw [cut]
    refine (mem_take_or_drop 8 mem).imp_right fun dropped => ⟨?_, fun u hu _ => ?_⟩
    · exact List.length_take_of_le long.le
    · exact rises.take_lt_drop hu dropped
  · rw [cut]
    refine (mem_take_or_drop 7 mem).imp (List.mem_append_left _) fun dropped =>
      ⟨?_, fun u hu notEnd => ?_⟩
    · rw [List.length_append, List.length_take_of_le (by omega)]
      rfl
    · rcases List.mem_append.mp hu with kept | last
      · exact rises.take_lt_drop kept dropped
      · exact absurd (List.mem_singleton.mp last ▸ isEnd) notEnd

/-! ### The law of the list -/

/-- The candidates slower than P_c, of which the list is made (R70, step 1). -/
def slower (pc : Nat) (all : List Target) : List Target := all.filter (fun t => decide (t.speed < pc))

theorem mem_slower {pc : Nat} {all : List Target} {t : Target} :
    t ∈ slower pc all ↔ t ∈ all ∧ t.speed < pc := by simp [slower]

/-- The list is a cut of what the slower candidates make. -/
theorem targetList_eq (pc : Nat) (all : List Target) :
    ∃ l, Collects (slower pc all) l ∧ targetList pc all = capTargets l := by
  obtain ⟨rises, source, least, point, maEnd⟩ :=
    foldr_insertTarget_collects (slower pc all).reverse
  simp only [List.mem_reverse] at source least point maEnd
  refine ⟨_, ⟨rises, source, least, point, maEnd⟩, ?_⟩
  rw [targetList, List.foldl_eq_foldr_reverse, slower]

/-- Settles O45: what insertion collects, cut by the capacity. -/
theorem targetListLaw : Obligations.TargetListLaw := by
  intro pc all
  obtain ⟨l, collects, cut⟩ := targetList_eq pc all
  dsimp only
  rw [cut]
  have kept := (capTargets_sublist l).subset
  refine ⟨capTargets_length l, collects.rises.sublist (capTargets_sublist l), fun u hu => ?_, ?_,
    fun t ht slow => ?_⟩
  · obtain ⟨s, hs, point, speed⟩ := collects.source u (kept hu)
    obtain ⟨mem, slow⟩ := mem_slower.mp hs
    exact ⟨speed ▸ slow, ⟨s, mem, point, speed⟩, fun t ht slow same =>
      collects.least u (kept hu) t (mem_slower.mpr ⟨ht, slow⟩) same⟩
  · rintro ⟨t, ht, isEnd, slow⟩
    exact capTargets_maEnd (collects.maEnd t (mem_slower.mpr ⟨ht, slow⟩) isEnd)
  · obtain ⟨u, hu, same⟩ := collects.point t (mem_slower.mpr ⟨ht, slow⟩)
    rw [← same]
    exact (capTargets_dropped collects.rises hu).imp_left fun on => ⟨u, on, rfl⟩

end Sys2Proof.Machine
end

section
/-! What each operation leaves of the supervision record: all of it, but for an evaluation, the end of
supervision at a change of mode, and the resets. An operation's proof splits its branches; each is closed
by the lemmas of the operations it calls, which stand above it. -/

namespace Sys2Proof.Machine

/-! ### Requests and folds -/

@[simp] theorem foldl_ssv {α : Type} (f : Device → α → Device) (h : ∀ x a, (f x a).ssv = x.ssv)
    (l : List α) (d : Device) : (l.foldl f d).ssv = d.ssv := by
  induction l generalizing d with
  | nil => rfl
  | cons a l ih => exact (ih _).trans (h d a)

/-- A request judged by checks keeps the supervision record if its effect does. -/
@[simp] theorem judged_ssv {checks : List (Bool × Reason)} {run : Device → Answered} {d : Device}
    (h : (run d).dev.ssv = d.ssv) : (judged checks run d).dev.ssv = d.ssv :=
  judged_rel (R := fun d e => e.ssv = d.ssv) (fun _ => rfl) checks run d fun _ => h

/-! ### The shared operations, as `KeepsBlocks` has them -/

@[simp] theorem notify_ssv (n : Notice) (d : Device) :
    (notify n d).ssv = d.ssv := (notify_keeps n d).ssv
@[simp] theorem queueEntry_ssv (k : UplinkKind) (p : List Byte) (d : Device) :
    (queueEntry k p d).1.ssv = d.ssv := (queueEntry_keeps k p d).ssv
@[simp] theorem callPosition_ssv (d : Device) :
    (callPosition d).ssv = d.ssv := (callPosition_keeps d).ssv
@[simp] theorem endTest_ssv (r : TestResult) (c : EndCause) (d : Device) :
    (endTest r c d).ssv = d.ssv := (endTest_keeps r c d).ssv
@[simp] theorem bdtEvent_ssv (f : List Entry → List Entry) (d : Device) :
    (bdtEvent f d).ssv = d.ssv := (bdtEvent_keeps f d).ssv
@[simp] theorem raiseWith_ssv (src : Source) (l : Level) (x : Option Nat) (d : Device) :
    (raiseWith src l x d).ssv = d.ssv := (raiseWith_keeps src l x d).ssv
@[simp] theorem setCondition_ssv (src : Source) (b : Bool) (d : Device) :
    (setCondition src b d).ssv = d.ssv := (setCondition_keeps src b d).ssv
@[simp] theorem refreshBrakes_ssv (d : Device) :
    (refreshBrakes d).ssv = d.ssv := (refreshBrakes_keeps d).ssv
@[simp] theorem judgeChannel_ssv (ch : Channel) (d : Device) :
    (judgeChannel ch d).ssv = d.ssv := (judgeChannel_keeps ch d).ssv
@[simp] theorem beginPhase_ssv (p : Phase) (k : Nat) (d : Device) :
    (beginPhase p k d).ssv = d.ssv := (beginPhase_keeps p k d).ssv
@[simp] theorem testMovement_ssv (m : Nat) (d : Device) :
    (testMovement m d).ssv = d.ssv := (testMovement_keeps m d).ssv
@[simp] theorem judgeConditions_ssv (b : Bool) (d : Device) :
    (judgeConditions b d).ssv = d.ssv := (judgeConditions_keeps b d).ssv
@[simp] theorem judgeDoorConditions_ssv (d : Device) :
    (judgeDoorConditions d).ssv = d.ssv := (judgeDoorConditions_keeps d).ssv
@[simp] theorem rollawayTest_ssv (d : Device) :
    (rollawayTest d).ssv = d.ssv := (rollawayTest_keeps d).ssv
@[simp] theorem refreshModeEntry_ssv (d : Device) :
    (refreshModeEntry d).ssv = d.ssv := (refreshModeEntry_keeps d).ssv
@[simp] theorem modeNotice_ssv (d : Device) :
    (modeNotice d).ssv = d.ssv := (modeNotice_keeps d).ssv
@[simp] theorem ssvEvent_ssv (src : Source) (a b : Bool) (x : Option Nat) (d : Device) :
    (ssvEvent src a b x d).ssv = d.ssv := (ssvEvent_keeps src a b x d).ssv
@[simp] theorem rackEntryTest_ssv (d : Device) :
    (rackEntryTest d).ssv = d.ssv := (rackEntryTest_keeps d).ssv
@[simp] theorem linkActions_ssv (l : LinkState) (d : Device) :
    (linkActions l d).ssv = d.ssv := (linkActions_keeps l d).ssv
@[simp] theorem validFrame_ssv (d : Device) :
    (validFrame d).ssv = d.ssv := (validFrame_keeps d).ssv
@[simp] theorem startConditions_ssv (d : Device) :
    (startConditions d).ssv = d.ssv := (startConditions_keeps d).ssv

/-! ### Doors -/

@[simp] theorem setDoor_ssv (n : DoorNo) (r : DoorRec) (d : Device) :
    (setDoor n r d).ssv = d.ssv := by
  unfold setDoor
  dsimp only
  split <;> simp

@[simp] theorem eachDoor_ssv (f : DoorNo → DoorRec → DoorRec) (d : Device) :
    (eachDoor f d).ssv = d.ssv := by simp [eachDoor]

@[simp] theorem withdrawRelease_ssv (d : Device) : (withdrawRelease d).ssv = d.ssv := by
  unfold withdrawRelease
  split <;> simp

@[simp] theorem judgeRelease_ssv (d : Device) : (judgeRelease d).ssv = d.ssv := by
  unfold judgeRelease
  (repeat' split) <;> simp

@[simp] theorem takeReport_ssv (n : DoorNo) (x : Report) (d : Device) :
    (takeReport n x d).ssv = d.ssv := by
  unfold takeReport
  dsimp only
  split <;> simp

@[simp] theorem loseDoor_ssv (n : DoorNo) (d : Device) : (loseDoor n d).ssv = d.ssv := by
  unfold loseDoor
  dsimp only
  split <;> simp

/-! ### A change of mode -/

@[simp] theorem quietSupervisor_ssv (d : Device) : (quietSupervisor d).ssv = ssvQuiet := by
  unfold quietSupervisor
  dsimp only
  split <;> simp

/-- A change of mode leaves the record alone, unless it ends supervision (R64). -/
theorem changeMode_ssv (m : Mode) (d : Device) : (changeMode m d).ssv =
    if d.mdc.mode.supervised ∧ ¬ m.supervised then ssvQuiet else d.ssv := by
  unfold changeMode
  split
  next same => simp [same]
  next =>
    dsimp only
    split <;> simp_all

/-- A mode that is supervised, or follows one that is not, leaves the record alone. -/
theorem changeMode_ssv_of_supervised {m : Mode} {d : Device}
    (h : d.mdc.mode.supervised → m.supervised) : (changeMode m d).ssv = d.ssv := by
  rw [changeMode_ssv, if_neg fun ends => ends.2 (h ends.1)]

theorem modeForCauses_supervised {m : Mode} (causes : Bool × Bool) (h : m.supervised) :
    (modeForCauses m causes).supervised := by
  unfold modeForCauses
  split
  · split <;> rfl
  · split <;> rfl
  · exact h

theorem serviceMode_supervised (d : Device) : (serviceMode d).supervised := by
  unfold serviceMode
  split <;> rfl

/-- The causes move the car between SERVICE and DEGRADED alone, both supervised (R4). -/
@[simp] theorem reportCauses_ssv (d : Device) : (reportCauses d).ssv = d.ssv := by
  unfold reportCauses
  dsimp only
  split
  · rfl
  · split
    · simp
    · exact changeMode_ssv_of_supervised (modeForCauses_supervised _)

@[simp] theorem positionChanged_ssv (d : Device) : (positionChanged d).ssv = d.ssv := by
  simp [positionChanged, positionTest]

/-! ### Placement -/

@[simp] theorem chooseSource_ssv (d : Device) : (chooseSource d).ssv = d.ssv := by
  unfold chooseSource
  dsimp only
  split <;> rfl

@[simp] theorem meshChanged_ssv (d : Device) : (meshChanged d).ssv = d.ssv := by
  simp [meshChanged, clearShallow]

@[simp] theorem placeBogies_ssv (d : Device) : (placeBogies d).ssv = d.ssv := by
  unfold placeBogies
  dsimp only
  split <;> simp

@[simp] theorem placeAgain_ssv (d : Device) : (placeAgain d).ssv = d.ssv := by simp [placeAgain]

@[simp] theorem faultBogie_ssv (w : Bogie) (d : Device) : (faultBogie w d).ssv = d.ssv := by
  simp [faultBogie]

@[simp] theorem recoverBogies_ssv (d : Device) : (recoverBogies d).ssv = d.ssv := by
  simp [recoverBogies]

/-! ### The radio link -/

@[simp] theorem linkTo_ssv (l : LinkState) (v : LinkEvent) (d : Device) :
    (linkTo l v d).ssv = d.ssv := by simp [linkTo]

@[simp] theorem silenceExpires_ssv (d : Device) : (silenceExpires d).ssv = d.ssv := by
  unfold silenceExpires
  split <;> simp

@[simp] theorem judgeShadow_ssv (d : Device) : (judgeShadow d).ssv = d.ssv := by
  unfold judgeShadow
  dsimp only
  (repeat' split) <;> simp

@[simp] theorem linkFlagCleared_ssv (d : Device) : (linkFlagCleared d).ssv = d.ssv := by
  unfold linkFlagCleared
  split <;> simp

@[simp] theorem linkCommit_ssv (d : Device) : (linkCommit d).ssv = d.ssv := by
  unfold linkCommit
  (repeat' split) <;> simp

/-! ### Mesh and calibration -/

@[simp] theorem endMeshWindow_ssv (w : Bogie) (m : MeshRec) (d : Device) :
    (endMeshWindow w m d).ssv = d.ssv := by
  unfold endMeshWindow
  dsimp only
  (repeat' split) <;> simp

@[simp] theorem rackToothMesh_ssv (w : Bogie) (d : Device) : (rackToothMesh w d).ssv = d.ssv := by
  unfold rackToothMesh
  dsimp only
  (repeat' split) <;> simp

@[simp] theorem pinionToothMesh_ssv (w : Bogie) (d : Device) :
    (pinionToothMesh w d).ssv = d.ssv := by
  unfold pinionToothMesh
  dsimp only
  split <;> simp

@[simp] theorem missingRack_ssv (n : Nat) (w : Bogie) (d : Device) :
    (missingRack n w d).ssv = d.ssv := by
  unfold missingRack
  dsimp only
  (repeat' split) <;> simp

@[simp] theorem castVote_ssv (c : CarConfig) (k : Calib) (v : Leaning) (d : Device) :
    (castVote c k v d).ssv = d.ssv := by
  unfold castVote
  dsimp only
  (repeat' split) <;> simp

@[simp] theorem endCalWindow_ssv (n : Nat) (d : Device) : (endCalWindow n d).ssv = d.ssv := by
  unfold endCalWindow
  (repeat' split) <;> simp

@[simp] theorem calTooth_ssv (x : Sense) (d : Device) : (calTooth x d).ssv = d.ssv := by
  unfold calTooth
  (repeat' split) <;> simp

@[simp] theorem calPulse_ssv (x : Sense) (d : Device) : (calPulse x d).ssv = d.ssv := by
  unfold calPulse
  (repeat' split) <;> simp

/-! ### Distance and standstill -/

@[simp] theorem movePosition_ssv (b : Bool) (n : Nat) (x : Option Dir) (d : Device) :
    (movePosition b n x d).ssv = d.ssv := by
  unfold movePosition
  dsimp only
  (repeat' split) <;> simp

@[simp] theorem rollawayDistance_ssv (n : Nat) (x : Option Dir) (d : Device) :
    (rollawayDistance n x d).ssv = d.ssv := by simp [rollawayDistance]

@[simp] theorem takeDistance_ssv (b : Bool) (n : Nat) (x : Option Dir) (d : Device) :
    (takeDistance b n x d).ssv = d.ssv := by simp [takeDistance]

@[simp] theorem judgeDoorsMoving_ssv (d : Device) : (judgeDoorsMoving d).ssv = d.ssv := by
  unfold judgeDoorsMoving
  split <;> simp

@[simp] theorem testStandstillLost_ssv (d : Device) : (testStandstillLost d).ssv = d.ssv := by
  unfold testStandstillLost
  (repeat' split) <;> simp

@[simp] theorem standstillCleared_ssv (d : Device) :
    (standstillCleared d).ssv = d.ssv := by simp [standstillCleared]

@[simp] theorem countEdge_ssv (d : Device) : (countEdge d).ssv = d.ssv := by
  unfold countEdge
  split <;> simp

@[simp] theorem clearStartUpHold_ssv (d : Device) : (clearStartUpHold d).ssv = d.ssv := by
  unfold clearStartUpHold
  split <;> simp

@[simp] theorem endWithdrawn_ssv (d : Device) : (endWithdrawn d).ssv = d.ssv := by
  unfold endWithdrawn
  (repeat' split) <;> simp

@[simp] theorem setStandstill_ssv (d : Device) :
    (setStandstill d).ssv = d.ssv := by simp [setStandstill]

@[simp] theorem countQuiet_ssv (d : Device) : (countQuiet d).ssv = d.ssv := by
  unfold countQuiet
  dsimp only
  (repeat' split) <;> simp

@[simp] theorem twentiethQuiet_ssv (d : Device) : (twentiethQuiet d).ssv = d.ssv := by
  unfold twentiethQuiet
  split <;> simp

/-! ### Radio -/

@[simp] theorem pushAck_ssv (n : Byte) (r : Result) (d : Device) : (pushAck n r d).ssv = d.ssv := by
  unfold pushAck
  split <;> simp

@[simp] theorem acknowledge_ssv (n : Byte) (d : Device) : (acknowledge n d).ssv = d.ssv := by
  unfold acknowledge
  (repeat' split) <;> simp

@[simp] theorem ackTimeout_ssv (n : Byte) (d : Device) : (ackTimeout n d).ssv = d.ssv := by
  unfold ackTimeout
  (repeat' split) <;> simp

@[simp] theorem telegramEnd_ssv (d : Device) : (telegramEnd d).ssv = d.ssv := by
  unfold telegramEnd
  (repeat' split) <;> simp

@[simp] theorem logonExpires_ssv (d : Device) : (logonExpires d).ssv = d.ssv := by
  unfold logonExpires
  split <;> simp

@[simp] theorem reportExpires_ssv (d : Device) : (reportExpires d).ssv = d.ssv := by
  unfold reportExpires
  split <;> simp

@[simp] theorem finish_ssv (d : Device) : (finish d).ssv = d.ssv := by
  obtain ⟨-, -, -, ssv, -⟩ := finish_blocks d
  exact ssv

/-! ### Authority and restrictions -/

@[simp] theorem setAuthority_ssv (a : Option Authority) (t : Option Timer) (d : Device) :
    (setAuthority a t d).ssv = d.ssv := by simp [setAuthority]

@[simp] theorem takeGrant_ssv (p : List Byte) (d : Device) : (takeGrant p d).1.ssv = d.ssv := by
  unfold takeGrant
  dsimp only
  (repeat' split) <;> simp

@[simp] theorem takeShorten_ssv (p : List Byte) (d : Device) : (takeShorten p d).1.ssv = d.ssv := by
  unfold takeShorten
  split <;> simp

@[simp] theorem withdrawAuthority_ssv (d : Device) : (withdrawAuthority d).ssv = d.ssv := by
  unfold withdrawAuthority
  (repeat' split) <;> simp

@[simp] theorem authorityExpires_ssv (d : Device) : (authorityExpires d).ssv = d.ssv := by
  unfold authorityExpires
  split <;> simp

@[simp] theorem stage_ssv (x : Staged) (r : Result) (d : Device) : (stage x r d).1.ssv = d.ssv := by
  unfold stage
  dsimp only
  split <;> simp

@[simp] theorem noticePending_ssv (b : Bool) (x : Device × Result) :
    (noticePending b x).1.ssv = x.1.ssv := by
  unfold noticePending
  split <;> simp

@[simp] theorem takeRestriction_ssv (p : List Byte) (d : Device) :
    (takeRestriction p d).1.ssv = d.ssv := by
  unfold takeRestriction
  (repeat' split) <;> simp

@[simp] theorem takeLift_ssv (p : List Byte) (d : Device) : (takeLift p d).1.ssv = d.ssv := by
  unfold takeLift
  dsimp only
  (repeat' split) <;> simp

@[simp] theorem judgeRoom_ssv (d : Device) : (judgeRoom d).ssv = d.ssv := by
  unfold judgeRoom
  split <;> simp

@[simp] theorem updateRestrictions_ssv (d : Device) :
    (updateRestrictions d).ssv = d.ssv := by simp [updateRestrictions]

@[simp] theorem setStopOrder_ssv (b : Bool) (d : Device) :
    (setStopOrder b d).ssv = d.ssv := by simp [setStopOrder]

/-! ### Telegrams -/

@[simp] theorem logonAnswer_ssv (b : Byte) (d : Device) : (logonAnswer b d).ssv = d.ssv := by
  unfold logonAnswer
  (repeat' split) <;> simp

@[simp] theorem handToAru_ssv (k : DownKind) (p : List Byte) (d : Device) :
    (handToAru k p d).1.ssv = d.ssv := by
  unfold handToAru
  split <;> simp

@[simp] theorem takeAcknowledged_ssv (k : DownKind) (t : Telegram) (d : Device) :
    (takeAcknowledged k t d).ssv = d.ssv := by
  unfold takeAcknowledged
  (repeat' split) <;> simp

@[simp] theorem actOn_ssv (k : DownKind) (t : Telegram) (d : Device) :
    (actOn k t d).ssv = d.ssv := by
  unfold actOn
  (repeat' split) <;> simp

@[simp] theorem restartSilence_ssv (d : Device) : (restartSilence d).ssv = d.ssv := by
  unfold restartSilence
  split <;> simp

@[simp] theorem takeValid_ssv (k : DownKind) (t : Telegram) (d : Device) :
    (takeValid k t d).ssv = d.ssv := by
  unfold takeValid
  dsimp only
  (repeat' split) <;> simp

@[simp] theorem takeTelegram_ssv (k : DownKind) (t : Telegram) (d : Device) :
    (takeTelegram k t d).ssv = d.ssv := by simp [takeTelegram]

@[simp] theorem takeComplete_ssv (frame : List Byte) (d : Device) :
    (takeComplete frame d).ssv = d.ssv := by
  unfold takeComplete
  split <;> simp

@[simp] theorem takeModemBytes_ssv (bytes : List Byte) (d : Device) :
    (takeModemBytes bytes d).ssv = d.ssv := by simp [takeModemBytes]

/-! ### Resets -/

@[simp] theorem restartBlocks_ssv (d : Device) : (restartBlocks d).ssv = ssvQuiet := rfl
@[simp] theorem restartMesh_ssv (d : Device) : (restartMesh d).ssv = d.ssv := rfl

@[simp] theorem startedNotice_ssv (d : Device) :
    (startedNotice d).ssv = d.ssv := by simp [startedNotice]

@[simp] theorem restartReports_ssv (m : Mode) (d : Device) : (restartReports m d).ssv = d.ssv := by
  unfold restartReports
  dsimp only
  (repeat' split) <;> simp

@[simp] theorem warmRestart_ssv (d : Device) : (warmRestart d).ssv = ssvQuiet := by
  unfold warmRestart
  dsimp only
  split <;> simp

@[simp] theorem hearFrame_ssv (d : Device) : (hearFrame d).ssv = d.ssv := by simp [hearFrame]

@[simp] theorem judgeFirstSample_ssv (r : Nat) (d : Device) :
    (judgeFirstSample r d).ssv = d.ssv := by
  obtain ⟨w, -, blocks, -⟩ := judgeFirstSample_cases r d
  exact blocks.ssv

theorem watchSample_ssv (r : Nat) (d : Device) : (watchSample r d).ssv = d.ssv := by
  unfold watchSample
  split
  · rfl
  · rw [finish_ssv]
    (repeat' split) <;> simp

/-! ### Mode requests -/

@[simp] theorem askEnterService_ssv (d : Device) : (askEnterService d).dev.ssv = d.ssv :=
  judged_ssv (changeMode_ssv_of_supervised fun _ => serviceMode_supervised d)

@[simp] theorem askWake_ssv (d : Device) : (askWake d).dev.ssv = d.ssv := by
  unfold askWake
  split
  · exact changeMode_ssv_of_supervised fun _ => rfl
  · rfl
  · rfl

@[simp] theorem askRestart_ssv (d : Device) : (askRestart d).dev.ssv = d.ssv := judged_ssv rfl

@[simp] theorem wakeExpires_ssv (d : Device) : (wakeExpires d).ssv = d.ssv := by
  unfold wakeExpires
  split
  · exact (changeMode_ssv_of_supervised fun _ => serviceMode_supervised _).trans (by simp)
  · rfl

@[simp] theorem askClearResetRecord_ssv (d : Device) : (askClearResetRecord d).dev.ssv = d.ssv := by
  rw [askClearResetRecord, accept_dev]

@[simp] theorem askOrientation_ssv (v : Option Dir) (d : Device) :
    (askOrientation v d).dev.ssv = d.ssv := by simp [askOrientation]

/-! ### Queries and the position -/

@[simp] theorem askSegment_ssv (i : Nat) (d : Device) : (askSegment i d).dev.ssv = d.ssv := by
  unfold askSegment
  (repeat' split) <;> simp

@[simp] theorem askSetPosition_ssv (x u : Nat) (d : Device) :
    (askSetPosition x u d).dev.ssv = d.ssv :=
  judged_ssv (by simp)

@[simp] theorem answerPart_ssv (k : QueryKind) (n : Nat) (d : Device) :
    (answerPart k n d).dev.ssv = d.ssv := by rw [answerPart_dev]

@[simp] theorem query_ssv (k : QueryKind) (p : Byte) (f : Device → Contents) (d : Device) :
    (query k p f d).dev.ssv = d.ssv := by
  unfold query
  split <;> simp

/-! ### Demands and brakes -/

@[simp] theorem askReaction_ssv (n : Nat) (l : Option Level) (m : Option LatchMode) (d : Device) :
    (askReaction n l m d).dev.ssv = d.ssv := by
  unfold askReaction
  (repeat' split) <;> simp

@[simp] theorem releaseEntry_ssv (src : Source) (d : Device) :
    (releaseEntry src d).ssv = d.ssv := by
  unfold releaseEntry
  split <;> simp

@[simp] theorem askAck_ssv (n : Nat) (d : Device) : (askAck n d).dev.ssv = d.ssv := by
  unfold askAck
  (repeat' split) <;> simp

@[simp] theorem askBrakeRequest_ssv (l : Option Level) (n : Nat) (d : Device) :
    (askBrakeRequest l n d).dev.ssv = d.ssv := by
  unfold askBrakeRequest
  split <;> simp

@[simp] theorem feedbackEdge_ssv (ch : Channel) (b : Bool) (d : Device) :
    (feedbackEdge ch b d).ssv = d.ssv := by
  unfold feedbackEdge
  dsimp only
  split <;> simp

@[simp] theorem feedbackExpires_ssv (ch : Channel) (d : Device) :
    (feedbackExpires ch d).ssv = d.ssv := by
  unfold feedbackExpires
  dsimp only
  split <;> simp

@[simp] theorem nextPhase_ssv (r : TestRun) (d : Device) : (nextPhase r d).ssv = d.ssv := by
  unfold nextPhase
  (repeat' split) <;> simp

@[simp] theorem phaseExpires_ssv (d : Device) : (phaseExpires d).ssv = d.ssv := by
  unfold phaseExpires
  (repeat' split) <;> simp

@[simp] theorem askStopTest_ssv (d : Device) : (askStopTest d).dev.ssv = d.ssv := by
  unfold askStopTest
  split <;> simp

@[simp] theorem beginTest_ssv (h : Option (Nat × Nat)) (d : Device) :
    (beginTest h d).ssv = d.ssv := by simp [beginTest]

/-! ### Doors and their bus -/

@[simp] theorem grantRelease_ssv (x : Side) (d : Device) :
    (grantRelease x d).ssv = d.ssv := by simp [grantRelease]

@[simp] theorem closeDoors_ssv (x : SideSel) (d : Device) :
    (closeDoors x d).ssv = d.ssv := by simp [closeDoors]

@[simp] theorem askReleaseDoors_ssv (x : Option Side) (d : Device) :
    (askReleaseDoors x d).dev.ssv = d.ssv := by
  unfold askReleaseDoors
  cases x <;> exact judged_ssv (by simp)

@[simp] theorem askCloseDoors_ssv (x : Option SideSel) (d : Device) :
    (askCloseDoors x d).dev.ssv = d.ssv := by
  unfold askCloseDoors
  split <;> simp

@[simp] theorem missTrans_ssv (t : Trans) (b : Bool) (d : Device) :
    (missTrans t b d).ssv = d.ssv := by
  unfold missTrans
  dsimp only
  (repeat' split) <;> simp

@[simp] theorem reportTrans_ssv (t : Trans) (x : Report) (d : Device) :
    (reportTrans t x d).ssv = d.ssv := by
  unfold reportTrans
  split <;> simp

@[simp] theorem waitTrans_ssv (t : Trans) (d : Device) : (waitTrans t d).ssv = d.ssv := by
  unfold waitTrans
  (repeat' split) <;> simp

@[simp] theorem takeAnswer_ssv (judge : DoorNo → Answer) (d : Device) :
    (takeAnswer judge d).ssv = d.ssv := by
  unfold takeAnswer
  (repeat' split) <;> simp

@[simp] theorem windowCloses_ssv (d : Device) :
    (windowCloses d).ssv = d.ssv := by simp [windowCloses]

@[simp] theorem isolateUnit_ssv (n : DoorNo) (d : Device) : (isolateUnit n d).ssv = d.ssv := by
  unfold isolateUnit
  dsimp only
  (repeat' split) <;> simp

@[simp] theorem isolate_ssv (n : DoorNo) (d : Device) : (isolate n d).ssv = d.ssv := by
  unfold isolate
  split <;> simp

@[simp] theorem askIsolate_ssv (n : Nat) (d : Device) : (askIsolate n d).dev.ssv = d.ssv := by
  unfold askIsolate
  split <;> simp

@[simp] theorem askDeisolate_ssv (n : Nat) (d : Device) : (askDeisolate n d).dev.ssv = d.ssv := by
  unfold askDeisolate
  split <;> simp

@[simp] theorem askClearFlags_ssv (n : Nat) (d : Device) : (askClearFlags n d).dev.ssv = d.ssv := by
  unfold askClearFlags
  (repeat' split) <;> simp

@[simp] theorem dwellExpires_ssv (n : DoorNo) (d : Device) : (dwellExpires n d).ssv = d.ssv := by
  unfold dwellExpires
  dsimp only
  split <;> simp

@[simp] theorem pollEnd_ssv (d : Device) : (pollEnd d).ssv = d.ssv := by
  unfold pollEnd
  (repeat' split) <;> simp

@[simp] theorem repeatPoll_ssv (d : Device) : (repeatPoll d).ssv = d.ssv := by
  unfold repeatPoll
  (repeat' split) <;> simp

/-! ### Authority requests and the link -/

@[simp] theorem selectDir_ssv (x : Option Dir) (d : Device) : (selectDir x d).ssv = d.ssv := by
  unfold selectDir
  split <;> simp

@[simp] theorem askSelectDirection_ssv (x : Option (Option Dir)) (d : Device) :
    (askSelectDirection x d).dev.ssv = d.ssv := by
  unfold askSelectDirection
  split <;> simp

@[simp] theorem askAuthority_ssv (d : Device) : (askAuthority d).dev.ssv = d.ssv := by
  unfold askAuthority
  dsimp only
  (repeat' split) <;> simp

@[simp] theorem askAddRestriction_ssv (i a b l : Nat) (x : Option AppliesTo) (d : Device) :
    (askAddRestriction i a b l x d).dev.ssv = d.ssv := by
  unfold askAddRestriction
  split
  · rfl
  · rfl
  · exact judged_ssv rfl

@[simp] theorem askLiftRestriction_ssv (i : Nat) (d : Device) :
    (askLiftRestriction i d).dev.ssv = d.ssv := by
  unfold askLiftRestriction
  split <;> simp

@[simp] theorem linkSilenceExpires_ssv (d : Device) : (linkSilenceExpires d).ssv = d.ssv := by
  unfold linkSilenceExpires
  split <;> simp

@[simp] theorem askStatus_ssv (d : Device) : (askStatus d).dev.ssv = d.ssv := by rw [askStatus]

/-! ### Edges, markers and samples -/

@[simp] theorem sourceTooth_ssv (w : Bogie) (x : Sense) (d : Device) :
    (sourceTooth w x d).ssv = d.ssv := by
  unfold sourceTooth
  (repeat' split) <;> simp

@[simp] theorem rackTooth_ssv (w : Bogie) (x : Sense) (d : Device) :
    (rackTooth w x d).ssv = d.ssv := by
  unfold rackTooth
  dsimp only
  split <;> simp

@[simp] theorem meshWindowTooth_ssv (w : Bogie) (x : Sense) (d : Device) :
    (meshWindowTooth w x d).ssv = d.ssv := by
  unfold meshWindowTooth
  dsimp only
  split <;> simp

@[simp] theorem calibrationTooth_ssv (d : Device) : (calibrationTooth d).ssv = d.ssv := by
  unfold calibrationTooth
  (repeat' split) <;> simp

@[simp] theorem pinionTooth_ssv (w : Bogie) (d : Device) :
    (pinionTooth w d).ssv = d.ssv := by simp [pinionTooth]

@[simp] theorem wheelPulse_ssv (x : Sense) (d : Device) : (wheelPulse x d).ssv = d.ssv := by
  unfold wheelPulse
  dsimp only
  (repeat' split) <;> simp

@[simp] theorem setByMarker_ssv (c : CarConfig) (f : Dir) (m : MarkerRec) (a b : Bool) (d : Device) :
    (setByMarker c f m a b d).ssv = d.ssv := by simp [setByMarker]

@[simp] theorem readMarker_ssv (i : BitVec 16) (d : Device) : (readMarker i d).ssv = d.ssv := by
  unfold readMarker
  (repeat' split) <;> simp

@[simp] theorem sampleHandle_ssv (h : Nat) (f : Bool) (d : Device) :
    (sampleHandle h f d).ssv = d.ssv := by
  unfold sampleHandle
  dsimp only
  split <;> simp

@[simp] theorem judgeAlarm_ssv (d : Device) : (judgeAlarm d).ssv = d.ssv := by simp [judgeAlarm]

@[simp] theorem withContact_ssv (ch : Channel) (b : Bool) (d : Device) :
    (withContact ch b d).ssv = d.ssv := by
  unfold withContact
  split <;> simp

@[simp] theorem askResetRecord_ssv (d : Device) :
    (askResetRecord d).dev.ssv = d.ssv := by rw [askResetRecord]

@[simp] theorem askProfileInfo_ssv (d : Device) :
    (askProfileInfo d).dev.ssv = d.ssv := by rw [askProfileInfo]

@[simp] theorem askAcceptRelaxations_ssv (d : Device) : (askAcceptRelaxations d).dev.ssv = d.ssv :=
  updateRestrictions_ssv d

/-! ### An evaluation -/

/-- An evaluation leaves the record alone or writes it whole (R63). -/
theorem evaluate_ssv (d : Device) :
    (evaluate d).ssv = d.ssv ∨ ∃ c, (evaluate d).ssv = evaluated c d := by
  unfold evaluate
  split
  · exact .inl rfl
  next c _ =>
    split
    · refine .inr ⟨c, ?_⟩
      dsimp only
      split <;> simp
    · exact .inl rfl

/-! ### Configuration and profile -/

@[simp] theorem configureSilence_ssv (c : CarConfig) (d : Device) :
    (configureSilence c d).ssv = d.ssv := by
  unfold configureSilence
  (repeat' split) <;> simp

@[simp] theorem askConfigure_ssv (c : CarConfig) (d : Device) :
    (askConfigure c d).dev.ssv = d.ssv := by
  refine judged_ssv ?_
  split
  · rfl
  · simp [configure]

@[simp] theorem askLoadLine_ssv (l : BitVec 24) (v : BitVec 32) (d : Device) :
    (askLoadLine l v d).dev.ssv = d.ssv := judged_ssv rfl

@[simp] theorem askLoadSegment_ssv (i : Byte) (r : SegmentBytes) (d : Device) :
    (askLoadSegment i r d).dev.ssv = d.ssv := judged_ssv (by split <;> rfl)

@[simp] theorem askLoadStation_ssv (i : Byte) (r : StationBytes) (d : Device) :
    (askLoadStation i r d).dev.ssv = d.ssv := judged_ssv (by split <;> rfl)

@[simp] theorem askLoadMarker_ssv (i : Byte) (r : MarkerRec) (d : Device) :
    (askLoadMarker i r d).dev.ssv = d.ssv := judged_ssv rfl

@[simp] theorem askClearLoad_ssv (d : Device) : (askClearLoad d).dev.ssv = d.ssv := judged_ssv rfl

@[simp] theorem handOverCommit_ssv (kept : Bool) (d : Device) :
    (handOverCommit kept d).ssv = d.ssv := by
  cases kept <;> simp [handOverCommit]

@[simp] theorem askCommit_ssv (d : Device) : (askCommit d).dev.ssv = d.ssv := by
  refine judged_ssv ?_
  split
  · rfl
  · simp [commit]

/-! ### The command table -/

@[simp] theorem request_ssv (q : Req) {body : Device → Answered} (h : ∀ d, (body d).dev.ssv = d.ssv)
    (d : Device) : (request q body d).ssv = d.ssv := by
  unfold request answerFrame
  (repeat' split) <;> simp [h]

/-- A row of the command table that moves a line, if any, and runs its operation while the part is up. -/
theorem ssv_of_up {f : Device → Device} {e : Device} {s t : State} (line : e.ssv = s.dev.ssv)
    (h : (f e).ssv = e.ssv) (ht : become s (whenUp f e) = .next t) : t.dev.ssv = s.dev.ssv := by
  obtain rfl := Host.Outcome.next.inj ht
  unfold whenUp
  split
  · exact line
  · exact (finish_ssv _).trans (h.trans line)

/-- The commands that can reset the part (R13, R14, R120), and raw bytes, which may hold any request. -/
def mayReset : Instr → Prop
  | .powerOn | .batterySample _ | .warmRestart | .frameSent | .frameDiscarded _ => True
  | _ => False

/-- A command that neither evaluates, nor ends supervision, nor resets the part leaves the supervision
record as it was: each row's operation has its lemma above. -/
theorem exec_ssv (c : Instr) (s t : State) (hc : c.changesSupervision = false) (hr : ¬ mayReset c)
    (ht : exec c s = .next t) : t.dev.ssv = s.dev.ssv := by
  cases c with
  | powerOn | batterySample | warmRestart | frameSent | frameDiscarded => exact absurd trivial hr
  | speedSample | enterStabled | enterPreparation | startBrakeTest => cases hc
  | unknownKind tag kind => exact ssv_of_up rfl (request_ssv _ (fun _ => rfl) _) ht
  | _ => refine ssv_of_up ?_ ?_ ht <;> simp

end Sys2Proof.Machine
end

section
/-! The law of the permitted speed, kept by every step: O12. -/

namespace Sys2Proof.Machine

/-! ### The law, operation by operation -/

/-- The law of the permitted speed holds of the second device if it holds of the first (R75). -/
def KeepsSpeed (d e : Device) : Prop := SpeedLaw d → SpeedLaw e

theorem KeepsSpeed.refl (d : Device) : KeepsSpeed d d := id

theorem KeepsSpeed.trans {d e f : Device} (h : KeepsSpeed d e) (k : KeepsSpeed e f) :
    KeepsSpeed d f := k ∘ h

theorem KeepsSpeed.of_ssv {d e : Device} (h : e.ssv = d.ssv) : KeepsSpeed d e := by
  unfold KeepsSpeed SpeedLaw
  rw [h]
  exact id

theorem KeepsSpeed.of_quiet {d e : Device} (h : e.ssv = ssvQuiet) : KeepsSpeed d e := by
  unfold KeepsSpeed SpeedLaw
  rw [h]
  exact fun _ => ⟨le_rfl, le_rfl⟩

theorem KeepsSpeed.after {d e f : Device} (k : KeepsSpeed e f) (h : e.ssv = d.ssv) :
    KeepsSpeed d f := (KeepsSpeed.of_ssv h).trans k

theorem judged_speed {checks : List (Bool × Reason)} {run : Device → Answered} {d : Device}
    (h : KeepsSpeed d (run d).dev) : KeepsSpeed d (judged checks run d).dev :=
  judged_rel KeepsSpeed.refl checks run d fun _ => h

theorem changeMode_speed (m : Mode) (d : Device) : KeepsSpeed d (changeMode m d) := by
  by_cases ends : d.mdc.mode.supervised ∧ ¬ m.supervised
  · exact .of_quiet (by rw [changeMode_ssv, if_pos ends])
  · exact .of_ssv (by rw [changeMode_ssv, if_neg ends])

theorem askEnterStabled_speed (d : Device) : KeepsSpeed d (askEnterStabled d).dev := by
  unfold askEnterStabled
  split
  · exact judged_speed (changeMode_speed _ d)
  · exact judged_speed (changeMode_speed _ d)
  · exact (changeMode_speed _ _).after (stopWake_ssv d)
  · exact .refl d
  · exact .refl d

theorem askEnterPreparation_speed (d : Device) : KeepsSpeed d (askEnterPreparation d).dev :=
  judged_speed ((changeMode_speed _ _).after (stopWake_ssv d))

theorem askStartTest_speed (h : Option (Nat × Nat)) (d : Device) :
    KeepsSpeed d (askStartTest h d).dev :=
  judged_speed (((changeMode_speed _ _).after (by simp)).trans (.of_ssv (rollawayTest_ssv _)))

/-- An evaluation writes a record that meets the law whatever went before (R75). -/
theorem evaluate_speed (d : Device) : KeepsSpeed d (evaluate d) := by
  rcases evaluate_ssv d with same | ⟨c, written⟩
  · exact .of_ssv same
  · intro _
    rw [SpeedLaw, written]
    exact evaluated_speeds_le c d

theorem speedSample_speed (h : Nat) (f : Bool) (d : Device) : KeepsSpeed d (speedSample h f d) := by
  have sampled := evaluate_speed (rackEntryTest (countQuiet (sampleSpeed d)))
  exact (sampled.after (by simp)).trans (.of_ssv (by simp [speedSample]))

theorem restartIfAccepted_speed (d : Device) : KeepsSpeed d (restartIfAccepted d) := by
  unfold restartIfAccepted
  split
  · split
    · exact .of_quiet (warmRestart_ssv d)
    · exact .refl d
  · exact .refl d

theorem frameEnd_speed (d : Device) : KeepsSpeed d (frameEnd d) := by
  unfold frameEnd
  split
  · split
    · exact .of_quiet (warmRestart_ssv d)
    · exact .of_ssv rfl
  · exact .of_ssv rfl

/-! ### Frames from bytes -/

theorem requestBody_speed (kind : Nat) (p : List Byte) (d : Device) :
    KeepsSpeed d (requestBody kind p d).dev := by
  unfold requestBody
  split
  case h_4 => exact askEnterStabled_speed d
  case h_6 => exact askEnterPreparation_speed d
  case h_25 => exact askStartTest_speed _ d
  all_goals exact .of_ssv (by simp)

theorem answerFrame_speed (q : Req) {body : Device → Answered} (h : ∀ d, KeepsSpeed d (body d).dev)
    (d : Device) : KeepsSpeed d (answerFrame q body d) := by
  unfold answerFrame
  split
  · exact .refl d
  · split
    · exact (h d).trans (.of_ssv rfl)
    · exact .of_ssv rfl

theorem request_speed (q : Req) {body : Device → Answered} (h : ∀ d, KeepsSpeed d (body d).dev)
    (d : Device) : KeepsSpeed d (request q body d) :=
  (answerFrame_speed q h _).after (validFrame_ssv d)

theorem takeLinkBytes_speed (bytes : List Byte) (d : Device) :
    KeepsSpeed d (takeLinkBytes bytes d) := by
  have frame : ∀ (f : List Byte) (x : Device), KeepsSpeed x (finish (takeFrame f x)) := fun f x =>
    ((answerFrame_speed _ (requestBody_speed _ _) _).after (hearFrame_ssv x)).trans
      (.of_ssv (finish_ssv _))
  have frames : ∀ (l : List (List Byte)) (x : Device),
      KeepsSpeed x (l.foldl (fun x f => finish (takeFrame f x)) x) := by
    intro l
    induction l with
    | nil => exact .refl
    | cons f l ih => exact fun x => (frame f x).trans (ih _)
  exact (frames _ _).after (keepAssembly_ssv bytes d)

/-! ### Samples and the command table -/

theorem takeBatterySample_speed (r : Nat) (d : Device) : KeepsSpeed d (takeBatterySample r d) := by
  unfold takeBatterySample
  split
  · split
    · exact .of_quiet ((finish_ssv _).trans (coldStart_started r d).blocks.ssv)
    · exact .of_ssv rfl
  · exact .of_ssv (watchSample_ssv r d)

theorem speed_of_up {f : Device → Device} {s t : State} (h : KeepsSpeed s.dev (f s.dev))
    (ht : become s (whenUp f s.dev) = .next t) : KeepsSpeed s.dev t.dev := by
  obtain rfl := Host.Outcome.next.inj ht
  unfold whenUp
  split
  · exact .refl _
  · exact h.trans (.of_ssv (finish_ssv _))

/-- Every command keeps the law: a speed sample evaluates anew, the end of supervision and the resets
leave the quiet record, and the rest do not write the record. -/
theorem exec_speed (c : Instr) (s t : State) (ht : exec c s = .next t) : KeepsSpeed s.dev t.dev := by
  cases c with
  | powerOn =>
    obtain rfl := Host.Outcome.next.inj ht
    exact .of_quiet rfl
  | batterySample r =>
    obtain rfl := Host.Outcome.next.inj ht
    exact takeBatterySample_speed r _
  | warmRestart => exact speed_of_up (restartIfAccepted_speed _) ht
  | frameSent => exact speed_of_up (frameEnd_speed _) ht
  | frameDiscarded b => exact speed_of_up (takeLinkBytes_speed b _) ht
  | speedSample h f => exact speed_of_up (speedSample_speed h f _) ht
  | enterStabled q => exact speed_of_up (request_speed q askEnterStabled_speed _) ht
  | enterPreparation q => exact speed_of_up (request_speed q askEnterPreparation_speed _) ht
  | startBrakeTest q h => exact speed_of_up (request_speed q (askStartTest_speed h) _) ht
  | _ => exact .of_ssv (exec_ssv _ s t rfl id ht)

/-- Settles O12: a step is a tick, which leaves the record alone, or a command. -/
theorem speedLawKept : Obligations.SpeedLawKept := by
  intro s t h ht
  unfold step at ht
  split at ht
  · obtain rfl := Host.Outcome.next.inj ht
    exact h
  · next c rest _ => exact exec_speed c { s with pending := rest } t ht h

end Sys2Proof.Machine
end

section
/-! Every operation of the part as a path of moves. A move is what the laws of this family speak of: an event
of the table, the outputs set, a door record written, a queue that keeps its room; whatever else an operation
writes, it stays in their sight. An operation may leave something out of date until a later move brings it up
to date, and a path says what is out of date at its end. The laws are then proved move by move. -/

namespace Sys2Proof.Machine

/-! ### What may be out of date -/

/-- What can be out of date between two moves: the table behind a new configuration or a standstill
indication just set (R93, R94), the outputs behind what they follow (R105), DOOR_HOLD behind the doors
(R129). -/
structure Stale where
  table : Bool
  outputs : Bool
  doors : Bool

namespace Stale

/-- Nothing is out of date. -/
def fresh : Stale := ⟨false, false, false⟩

/-- An event of the table brings the table and the outputs up to date (R85). -/
def settled (k : Stale) : Stale := { k with table := false, outputs := false }

/-- What is out of date by the first is so by the second. -/
structure le (k l : Stale) : Prop where
  table : k.table = true → l.table = true
  outputs : k.outputs = true → l.outputs = true
  doors : k.doors = true → l.doors = true

theorem settled_le (k : Stale) : k.settled.le k := ⟨nofun, nofun, id⟩

end Stale

/-! ### What the laws see of the part -/

/-- Whether the part is cut off (R121). -/
def Device.cut (d : Device) : Bool := d.bau.watch == .cutoff

/-- What the table stands on (R92 to R94). -/
def Device.figures (d : Device) :=
  (d.bdt.entries, d.bdt.applied, d.bdt.governing, d.bdt.hold, d.bdt.svcDecel, d.odu.standstill,
   d.mdc.config)

/-- A channel's command with its valve drives (R105, R107). -/
def ChannelRec.drive (c : ChannelRec) := (c.commanded, c.releaseValve, c.fullValve)

/-- The outputs as they are (R105). -/
def Device.shown (d : Device) :=
  (d.bau.channels.a.drive, d.bau.channels.b.drive, d.bau.ebLine, d.bau.edbDemand, d.bau.traction)

/-- The drive of a commanded state under a duty (R107). -/
def driveFor (duty : Nat) (c : Commanded) := (c, valvesFor duty c)

/-- The outputs as they are to be (R106 to R110, R115). -/
def Device.called (d : Device) :=
  (driveFor (serviceDuty d.mdc.config d.bdt.svcDecel) (pattern d .a),
   driveFor (serviceDuty d.mdc.config d.bdt.svcDecel) (pattern d .b), emergencyRow d, edbDemandOf d,
   tractionOf d)

/-- What waits in the queues that have a room (R159, R160, R185, R189). -/
def Device.waiting (d : Device) :=
  (d.clp.notices, d.clp.replies, d.vru.dupWindow, d.vru.ackList)

/-- A door record as R124 and R134 have it. -/
def DoorRec.lawful (r : DoorRec) : Prop :=
  (r.dwell ≠ none → r.state = .reversing) ∧ r.attempts ≤ 5

/-- The records of all doors are such. -/
def lawfulDoors (q : Quad DoorRec) : Prop := ∀ n, (q.get n).lawful

/-- The DOOR_HOLD entry as R84 and R129 have it. -/
def Entry.holdsDoor (e : Entry) : Prop :=
  e.mode = .flow ∧ Level.service.rank ≤ e.cfgLevel.rank
    ∧ ((e.state = .active ∧ e.cond = true) ∨ (e.state = .idle ∧ e.cond = false))

/-- The DOOR_HOLD entry of a table is such. -/
def Bdt.holdsDoor (t : Bdt) : Prop := ∀ e ∈ t.entries, e.src = .doorHold → e.holdsDoor

/-! ### The moves -/

/-- No queue outgrows its room that was in it before, and no reply is added. -/
structure KeepsRooms (d e : Device) : Prop where
  notices : d.clp.notices.length ≤ noticeRoom → e.clp.notices.length ≤ noticeRoom
  replies : e.clp.replies.length ≤ d.clp.replies.length
  dupWindow : d.vru.dupWindow.length ≤ windowRoom → e.vru.dupWindow.length ≤ windowRoom
  ackList : d.vru.ackList.length ≤ ackRoom → e.vru.ackList.length ≤ ackRoom

/-- Nothing changes that the laws see, but that doors may change among the secured or among the unsecured
and the queues within their rooms. -/
structure Stays (d e : Device) : Prop where
  cut : e.cut = d.cut
  figures : e.figures = d.figures
  shown : e.shown = d.shown
  called : e.called = d.called
  doors : lawfulDoors d.dcu.doors → lawfulDoors e.dcu.doors ∧ allSecured e = allSecured d
  rooms : KeepsRooms d e

/-- What the outputs follow may change. -/
structure Turns (d e : Device) : Prop where
  cut : e.cut = d.cut
  figures : e.figures = d.figures
  doors : e.dcu.doors = d.dcu.doors
  rooms : e.waiting = d.waiting

/-- The configuration may change, and the standstill indication may be set. -/
structure Renews (d e : Device) : Prop where
  cut : e.cut = d.cut
  table : e.bdt = d.bdt
  standstill : d.odu.standstill = true → e.odu.standstill = true
  doors : e.dcu.doors = d.dcu.doors
  rooms : e.waiting = d.waiting

/-- The door records may change. -/
structure Redoors (d e : Device) : Prop where
  cut : e.cut = d.cut
  figures : e.figures = d.figures
  shown : e.shown = d.shown
  called : e.called = d.called
  doors : lawfulDoors d.dcu.doors → lawfulDoors e.dcu.doors
  rooms : KeepsRooms d e

/-- A change of a source's entry that keeps its source, and the DOOR_HOLD entry as it is to be. -/
structure Reacts (src : Source) (f : Entry → Entry) (t : Bdt) : Prop where
  keeps : ∀ x, (f x).src = x.src
  door : src = .doorHold → t.holdsDoor → ∀ x ∈ t.entries, x.src = .doorHold →
    (f x).holdsDoor ∧ (f x).cond = x.cond

/-- A change of the DOOR_HOLD entry that brings its condition to a value. -/
structure HoldsAt (b : Bool) (f : Entry → Entry) : Prop where
  keeps : ∀ x, (f x).src = x.src
  door : ∀ x, x.src = .doorHold → x.holdsDoor → (f x).holdsDoor ∧ (f x).cond = b

/-- The devices that moves reach from a device, with what is out of date there. -/
inductive Path (k₀ : Stale) (o : Device) : Stale → Device → Prop
  | start : Path k₀ o k₀ o
  | weaken {k l : Stale} {d : Device} : Path k₀ o k d → k.le l → Path k₀ o l d
  | stays {k : Stale} {d e : Device} : Path k₀ o k d → Stays d e → Path k₀ o k e
  | event {k : Stale} {d : Device} (src : Source) (f : Entry → Entry) :
      Path k₀ o k d → Reacts src f d.bdt → Path k₀ o k.settled (tableEvent (onEntry src f) d)
  | outputs {k : Stale} {d : Device} :
      Path k₀ o k d → Path k₀ o { k with outputs := false } (setOutputs d)
  | turns {k : Stale} {d e : Device} :
      Path k₀ o k d → Turns d e → Path k₀ o { k with outputs := true } e
  | renews {k : Stale} {d e : Device} :
      Path k₀ o k d → Renews d e → Path k₀ o { k with table := true, outputs := true } e
  | redoors {k : Stale} {d e : Device} :
      Path k₀ o k d → Redoors d e → Path k₀ o { k with doors := true } e
  | holds {k : Stale} {d : Device} (f : Entry → Entry) : Path k₀ o k d → HoldsAt (!allSecured d) f →
      Path k₀ o .fresh (tableEvent (onEntry .doorHold f) d)
  | agrees {k : Stale} {d : Device} : Path k₀ o k d → d.bdt.present .doorHold = !allSecured d →
      Path k₀ o { k with doors := false } d

/-! ### Writes that the laws do not see -/

theorem KeepsRooms.of_eq {d e : Device} (h : e.waiting = d.waiting) : KeepsRooms d e := by
  simp only [Device.waiting, Prod.mk.injEq] at h
  obtain ⟨notices, replies, dupWindow, ackList⟩ := h
  exact ⟨by rw [notices]; exact id, by rw [replies], by rw [dupWindow]; exact id,
    by rw [ackList]; exact id⟩

theorem KeepsRooms.trans {d e f : Device} (h : KeepsRooms d e) (k : KeepsRooms e f) :
    KeepsRooms d f :=
  ⟨k.notices ∘ h.notices, k.replies.trans h.replies, k.dupWindow ∘ h.dupWindow, k.ackList ∘ h.ackList⟩

/-- All that the laws see, but for what waits. -/
def Device.sight (d : Device) := (d.cut, d.figures, d.shown, d.called, d.dcu.doors)

/-- All that the laws see. -/
def Device.seen (d : Device) := (d.sight, d.waiting)

theorem Stays.of_sight {d e : Device} (h : e.sight = d.sight) (rooms : KeepsRooms d e) : Stays d e := by
  simp only [Device.sight, Prod.mk.injEq] at h
  obtain ⟨cut, figures, shown, called, doors⟩ := h
  exact ⟨cut, figures, shown, called, fun k => by rw [allSecured, allSecured, doors]; exact ⟨k, rfl⟩,
    rooms⟩

/-- A write that the laws do not see. -/
theorem Path.unseen {k₀ k : Stale} {o d e : Device} (h : Path k₀ o k d) (same : e.seen = d.seen) :
    Path k₀ o k e := by
  obtain ⟨sight, waiting⟩ := Prod.mk.inj same
  exact h.stays (.of_sight sight (.of_eq waiting))

end Sys2Proof.Machine
end

section
/-! The laws along a path: what each move keeps of the table, the outputs, the held door and the rooms. -/

namespace Sys2Proof.Machine

variable {k₀ k l : Stale} {o d e : Device}

/-! ### An event of the table, at the laws -/

theorem tableEvent_dcu (f : List Entry → List Entry) (d : Device) : (tableEvent f d).dcu = d.dcu :=
  (tableEvent_keeps f d).dcu

theorem tableEvent_cut (f : List Entry → List Entry) (d : Device) : (tableEvent f d).cut = d.cut := by
  rw [Device.cut, (tableEvent_works f d).trial.watch]
  rfl

theorem tableEvent_ordered (src : Source) (f : Entry → Entry) (hf : ∀ x, (f x).src = x.src)
    (h : d.bdt.ordered) : (tableEvent (onEntry src f) d).bdt.ordered := by
  rw [Bdt.ordered, tableEvent_entries, onEntry_sources src f hf]
  exact h

theorem tableEvent_lawful (f : List Entry → List Entry) (d : Device) :
    (tableEvent f d).bdt.lawful := by
  rw [tableEvent_bdt]
  exact bdtAfter_lawful f d

/-- The hold stands after an event exactly as the entries, the indication and the hold before say (R94). -/
theorem tableEvent_hold (f : List Entry → List Entry) (d : Device) : (tableEvent f d).bdt.hold
    = holdAfter (tableEvent f d).bdt.entries d.odu.standstill d.bdt.hold := by
  rw [tableEvent_bdt]
  rfl

theorem tableEvent_svcDecel (f : List Entry → List Entry) (d : Device) : (tableEvent f d).bdt.svcDecel
    = serviceDecel (tableEvent f d).mdc.config (tableEvent f d).bdt.entries := by
  rw [(tableEvent_keeps f d).mdc, tableEvent_bdt]
  rfl

/-- A hold that an event leaves at standstill has an entry at EMERGENCY (R94). -/
theorem tableEvent_held (f : List Entry → List Entry) (d : Device)
    (hold : (tableEvent f d).bdt.hold = true) (still : (tableEvent f d).odu.standstill = true) :
    anyEmergency (tableEvent f d).bdt.entries = true := by
  rw [(tableEvent_keeps f d).odu] at still
  simpa [tableEvent_hold, holdAfter, still] using hold

/-! ### The law of the table -/

/-- The law of the table, but for what is out of date. -/
structure TableBut (k : Stale) (d : Device) : Prop where
  ordered : d.bdt.ordered
  lawful : d.bdt.lawful
  held : k.table = false → d.bdt.hold = true → d.odu.standstill = true →
    anyEmergency d.bdt.entries = true
  svcDecel : k.table = false → d.bdt.svcDecel = serviceDecel d.mdc.config d.bdt.entries

theorem tableLaw_iff (d : Device) : TableLaw d ↔ TableBut .fresh d :=
  ⟨fun ⟨ordered, lawful, held, svcDecel⟩ => ⟨ordered, lawful, fun _ => held, fun _ => svcDecel⟩,
   fun ⟨ordered, lawful, held, svcDecel⟩ => ⟨ordered, lawful, held rfl, svcDecel rfl⟩⟩

theorem tableEvent_tableBut (k : Stale) (src : Source) (f : Entry → Entry)
    (hf : ∀ x, (f x).src = x.src) (h : d.bdt.ordered) :
    TableBut k (tableEvent (onEntry src f) d) :=
  ⟨tableEvent_ordered src f hf h, tableEvent_lawful _ d, fun _ => tableEvent_held _ d,
   fun _ => tableEvent_svcDecel _ d⟩

theorem TableBut.of_figures (h : TableBut k d) (same : e.figures = d.figures)
    (stale : l.table = false → k.table = false) : TableBut l e := by
  simp only [Device.figures, Prod.mk.injEq] at same
  obtain ⟨entries, applied, governing, hold, svcDecel, standstill, config⟩ := same
  obtain ⟨ordered, lawful, held, decel⟩ := h
  unfold Bdt.ordered at ordered
  unfold Bdt.lawful at lawful
  rw [← entries] at ordered lawful held decel
  rw [← applied, ← governing, ← hold] at lawful
  rw [← hold, ← standstill] at held
  rw [← svcDecel, ← config] at decel
  exact ⟨ordered, lawful, held ∘ stale, decel ∘ stale⟩

/-- What is up to date by the second was so by the first. -/
theorem Stale.old {b c : Bool} (h : b = true → c = true) (hc : c = false) : b = false :=
  Bool.eq_false_iff.mpr fun hb => Bool.false_ne_true (hc.symm.trans (h hb))

/-- Every event of the table leaves its law, and nothing else writes what it speaks of but what an event
follows. -/
theorem Path.tableBut (p : Path k₀ o k d) (h : TableBut k₀ o) : TableBut k d := by
  induction p with
  | start => exact h
  | weaken _ le ih => exact ih.of_figures rfl (Stale.old le.table)
  | stays _ q ih => exact ih.of_figures q.figures id
  | event src f _ q ih => exact tableEvent_tableBut _ src f q.keeps ih.ordered
  | outputs _ ih => exact ih.of_figures rfl id
  | turns _ q ih => exact ih.of_figures q.figures id
  | renews _ q ih =>
    obtain ⟨ordered, lawful, -, -⟩ := ih
    exact ⟨q.table ▸ ordered, q.table ▸ lawful, nofun, nofun⟩
  | redoors _ q ih => exact ih.of_figures q.figures id
  | holds f _ q ih => exact tableEvent_tableBut _ .doorHold f q.keeps ih.ordered
  | agrees _ _ ih => exact ih.of_figures rfl id

/-- Along a path the standstill indication does not clear, and the hold clears only at standstill. -/
theorem Path.hold (p : Path k₀ o k d) :
    (o.odu.standstill = true → d.odu.standstill = true)
      ∧ (o.bdt.hold = true → d.bdt.hold = false → d.odu.standstill = true) := by
  have event : ∀ {x : Device} (f : List Entry → List Entry),
      ((o.odu.standstill = true → x.odu.standstill = true)
        ∧ (o.bdt.hold = true → x.bdt.hold = false → x.odu.standstill = true)) →
      (o.odu.standstill = true → (tableEvent f x).odu.standstill = true)
        ∧ (o.bdt.hold = true → (tableEvent f x).bdt.hold = false →
            (tableEvent f x).odu.standstill = true) := by
    intro x f ih
    rw [(tableEvent_keeps f x).odu, tableEvent_hold]
    refine ⟨ih.1, fun held clear => ?_⟩
    cases hold : x.bdt.hold with
    | false => exact ih.2 held hold
    | true => simp_all [holdAfter]
  have figures : ∀ {x y : Device}, y.figures = x.figures →
      y.odu.standstill = x.odu.standstill ∧ y.bdt.hold = x.bdt.hold := by
    intro x y same
    simp only [Device.figures, Prod.mk.injEq] at same
    obtain ⟨-, -, -, hold, -, standstill, -⟩ := same
    exact ⟨standstill, hold⟩
  induction p with
  | start => exact ⟨id, fun h k => absurd h (by simp [k])⟩
  | weaken _ _ ih => exact ih
  | stays _ q ih => rwa [(figures q.figures).1, (figures q.figures).2]
  | event src f _ _ ih => exact event _ ih
  | outputs _ ih => exact ih
  | turns _ q ih => rwa [(figures q.figures).1, (figures q.figures).2]
  | renews _ q ih =>
    rw [q.table]
    exact ⟨q.standstill ∘ ih.1, fun h k => q.standstill (ih.2 h k)⟩
  | redoors _ q ih => rwa [(figures q.figures).1, (figures q.figures).2]
  | holds f _ _ ih => exact event _ ih
  | agrees _ _ ih => exact ih

/-! ### The law of the outputs -/

/-- The law of the outputs says that they are as they are to be (R105). -/
theorem outputsLaw_iff (d : Device) : OutputsLaw d ↔ (d.cut = false → d.shown = d.called) := by
  simp only [OutputsLaw, Device.cut, Device.shown, Device.called, ChannelRec.drive, driveFor,
    Prod.mk.injEq, beq_eq_false_iff_ne, ne_eq, and_assoc]

/-- BAU sets the outputs as they are to be (R105). -/
theorem setOutputs_outputsLaw (d : Device) : OutputsLaw (setOutputs d) :=
  (outputsLaw_iff _).mpr fun _ => rfl

theorem tableEvent_outputsLaw (f : List Entry → List Entry) (d : Device) :
    OutputsLaw (tableEvent f d) := setOutputs_outputsLaw _

theorem OutputsLaw.of_shown (h : OutputsLaw d) (cut : e.cut = d.cut) (shown : e.shown = d.shown)
    (called : e.called = d.called) : OutputsLaw e := by
  rw [outputsLaw_iff] at h ⊢
  rwa [cut, shown, called]

theorem Path.outputsLaw (p : Path k₀ o k d) (h : k₀.outputs = false → OutputsLaw o) :
    k.outputs = false → OutputsLaw d := by
  induction p with
  | start => exact h
  | weaken _ le ih => exact ih ∘ Stale.old le.outputs
  | stays _ q ih => exact fun up => (ih up).of_shown q.cut q.shown q.called
  | event src f _ _ _ => exact fun _ => tableEvent_outputsLaw _ _
  | outputs _ _ => exact fun _ => setOutputs_outputsLaw _
  | turns _ _ _ => exact nofun
  | renews _ _ _ => exact nofun
  | redoors _ q ih => exact fun up => (ih up).of_shown q.cut q.shown q.called
  | holds f _ _ _ => exact fun _ => tableEvent_outputsLaw _ _
  | agrees _ _ ih => exact ih

/-! ### The law of the held door -/

/-- The law of the held door, but for what is out of date. -/
structure DoorsBut (k : Stale) (d : Device) : Prop where
  ordered : d.bdt.ordered
  entry : d.bdt.holdsDoor
  doors : lawfulDoors d.dcu.doors
  present : k.doors = false → d.cut = false → d.bdt.present .doorHold = !allSecured d

theorem doorHoldLaw_iff (d : Device) : DoorHoldLaw d ↔ DoorsBut .fresh d := by
  have up : d.cut = false ↔ d.bau.watch ≠ .cutoff := by simp [Device.cut]
  constructor
  · rintro ⟨ordered, present, entry, dwell, attempts⟩
    exact ⟨ordered, entry, fun n => ⟨dwell n, attempts n⟩, fun _ h => present (up.mp h)⟩
  · rintro ⟨ordered, entry, doors, present⟩
    exact ⟨ordered, fun h => present rfl (up.mpr h), entry, fun n => (doors n).1, fun n => (doors n).2⟩

/-- An event on one source's entry changes every entry by what it does to that source's. -/
theorem holdsDoor_of_map {t u : Bdt} {g : Entry → Entry} (entries : u.entries = t.entries.map g)
    (src : ∀ x, (g x).src = x.src)
    (door : ∀ x ∈ t.entries, x.src = .doorHold → (g x).holdsDoor) : u.holdsDoor := by
  intro e he hs
  rw [entries] at he
  obtain ⟨x, hx, rfl⟩ := List.mem_map.mp he
  exact door x hx ((src x).symm.trans hs)

theorem ite_src {src : Source} {f : Entry → Entry} (hf : ∀ x, (f x).src = x.src) (x : Entry) :
    (if x.src = src then f x else x).src = x.src := by
  split
  · exact hf x
  · rfl

/-- An event that leaves the DOOR_HOLD entry's condition alone. -/
theorem Reacts.present {src : Source} {f : Entry → Entry} (h : Reacts src f d.bdt)
    (entry : d.bdt.holdsDoor) :
    (tableEvent (onEntry src f) d).bdt.present .doorHold = d.bdt.present .doorHold := by
  by_cases hs : src = .doorHold
  · subst hs
    unfold Bdt.present
    rw [tableEvent_entries, onEntry, List.any_map]
    rw [Bool.eq_iff_iff, List.any_eq_true, List.any_eq_true]
    refine exists_congr fun x => and_congr_right fun hx => ?_
    by_cases door : x.src = .doorHold
    · simp [door, h.keeps, (h.door rfl entry x hx door).2]
    · simp [door]
  · exact (tableEvent_other src .doorHold f h.keeps (Ne.symm hs) d).present

theorem Reacts.holdsDoor {src : Source} {f : Entry → Entry} (h : Reacts src f d.bdt)
    (entry : d.bdt.holdsDoor) : (tableEvent (onEntry src f) d).bdt.holdsDoor := by
  refine holdsDoor_of_map (tableEvent_entries _ d) (ite_src h.keeps) fun x hx hs => ?_
  split
  next same => exact (h.door (same.symm.trans hs) entry x hx hs).1
  next => exact entry x hx hs

/-- The DOOR_HOLD entry after it has been brought to a value. -/
theorem HoldsAt.present {b : Bool} {f : Entry → Entry} (h : HoldsAt b f) (ordered : d.bdt.ordered)
    (entry : d.bdt.holdsDoor) :
    (tableEvent (onEntry .doorHold f) d).bdt.present .doorHold = b := by
  unfold Bdt.present
  rw [tableEvent_entries, onEntry, List.any_map]
  cases b with
  | true =>
    obtain ⟨x, hx, hs⟩ := ordered.mem .doorHold
    exact List.any_eq_true.mpr ⟨x, hx, by simp [hs, h.keeps, (h.door x hs (entry x hx hs)).2]⟩
  | false =>
    refine List.any_eq_false.mpr fun x hx => ?_
    by_cases hs : x.src = .doorHold
    · simp [hs, (h.door x hs (entry x hx hs)).2]
    · simp [hs]

theorem HoldsAt.holdsDoor {b : Bool} {f : Entry → Entry} (h : HoldsAt b f)
    (entry : d.bdt.holdsDoor) : (tableEvent (onEntry .doorHold f) d).bdt.holdsDoor := by
  refine holdsDoor_of_map (tableEvent_entries _ d) (ite_src h.keeps) fun x hx hs => ?_
  rw [if_pos hs]
  exact (h.door x hs (entry x hx hs)).1

theorem DoorsBut.of_figures (h : DoorsBut k d) (cut : e.cut = d.cut) (same : e.figures = d.figures)
    (doors : lawfulDoors e.dcu.doors)
    (secured : l.doors = false → k.doors = false ∧ allSecured e = allSecured d) : DoorsBut l e := by
  simp only [Device.figures, Prod.mk.injEq] at same
  obtain ⟨ordered, entry, -, present⟩ := h
  unfold Bdt.ordered at ordered
  unfold Bdt.holdsDoor at entry
  unfold Bdt.present at present
  rw [← same.1] at ordered entry present
  refine ⟨ordered, entry, doors, fun hl up => ?_⟩
  obtain ⟨hk, secured⟩ := secured hl
  rw [secured]
  exact present hk (cut ▸ up)

theorem allSecured_of (h : e.dcu.doors = d.dcu.doors) : allSecured e = allSecured d := by
  rw [allSecured, h]
  rfl

theorem Path.doorsBut (p : Path k₀ o k d) (h : DoorsBut k₀ o) : DoorsBut k d := by
  induction p with
  | start => exact h
  | weaken _ le ih => exact ih.of_figures rfl rfl ih.doors fun hl => ⟨Stale.old le.doors hl, rfl⟩
  | stays _ q ih =>
    obtain ⟨doors, secured⟩ := q.doors ih.doors
    exact ih.of_figures q.cut q.figures doors fun hk => ⟨hk, secured⟩
  | event src f _ q ih =>
    refine ⟨tableEvent_ordered src f q.keeps ih.ordered, q.holdsDoor ih.entry, ?_, fun hk up => ?_⟩
    · rw [tableEvent_dcu]
      exact ih.doors
    · rw [tableEvent_cut] at up
      rw [q.present ih.entry, allSecured_of (congrArg Dcu.doors (tableEvent_dcu _ _))]
      exact ih.present hk up
  | outputs _ ih => exact ih.of_figures rfl rfl ih.doors fun hk => ⟨hk, rfl⟩
  | turns _ q ih =>
    exact ih.of_figures q.cut q.figures (q.doors ▸ ih.doors) fun hk => ⟨hk, allSecured_of q.doors⟩
  | renews _ q ih =>
    refine ⟨q.table ▸ ih.ordered, q.table ▸ ih.entry, q.doors ▸ ih.doors, fun hk up => ?_⟩
    rw [q.table, allSecured_of q.doors]
    exact ih.present hk (q.cut ▸ up)
  | redoors _ q ih => exact ih.of_figures q.cut q.figures (q.doors ih.doors) nofun
  | holds f _ q ih =>
    refine ⟨tableEvent_ordered .doorHold f q.keeps ih.ordered, q.holdsDoor ih.entry, ?_, fun _ _ => ?_⟩
    · rw [tableEvent_dcu]
      exact ih.doors
    · rw [q.present ih.ordered ih.entry, allSecured_of (congrArg Dcu.doors (tableEvent_dcu _ _))]
  | agrees _ q ih => exact ⟨ih.ordered, ih.entry, ih.doors, fun _ _ => q⟩

end Sys2Proof.Machine
end

section
/-! What joins the notice queue: one notice, an event's DEMANDs and BRAKE_LEVEL, the OUTBOX_FULLs of its
reports; and the rooms along a path. -/

namespace Sys2Proof.Machine

variable {k₀ k : Stale} {o d e f : Device} {l m : List Notice}

/-! ### Notices behind the queue -/

/-- Some notices join the end of the queue in order; those beyond 32 are lost and set NOTICES_LOST
(R189). -/
def Enqueues (l : List Notice) (d e : Device) : Prop :=
  d.clp.notices.length ≤ noticeRoom →
    e.clp.notices = (d.clp.notices ++ l).take noticeRoom
      ∧ e.clp.lost = (d.clp.lost || decide (noticeRoom < (d.clp.notices ++ l).length))

theorem Enqueues.of_clp (h : e.clp = d.clp) : Enqueues [] d e := by
  intro room
  rw [h, List.append_nil, List.take_of_length_le room, decide_eq_false (Nat.not_lt.mpr room),
    Bool.or_false]
  exact ⟨rfl, rfl⟩

theorem Enqueues.trans (h : Enqueues l d e) (k : Enqueues m e f) : Enqueues (l ++ m) d f := by
  intro room
  obtain ⟨notices, lost⟩ := h room
  have short : e.clp.notices.length ≤ noticeRoom := by
    rw [notices]
    exact List.length_take_le _ _
  obtain ⟨notices', lost'⟩ := k short
  constructor
  · rw [notices', notices, ← List.append_assoc, List.take_append, List.take_append (l₂ := m),
      List.take_take, min_self, List.length_take]
    congr 2
    omega
  · rw [lost', lost, notices, Bool.or_assoc, ← Bool.decide_or]
    congr 2
    simp only [List.length_append, List.length_take, eq_iff_iff]
    omega

theorem notify_enqueues (n : Notice) (d : Device) : Enqueues [n] d (notify n d) := by
  intro room
  unfold notify
  split
  next short =>
    exact ⟨(List.take_of_length_le (by simpa using short)).symm, by simp; omega⟩
  next full =>
    have exact_ : d.clp.notices.length = noticeRoom := by omega
    exact ⟨by simp [← exact_], by simp [exact_]⟩

theorem foldl_enqueues {α : Type} (g : α → Notice) (l : List α) (d : Device) :
    Enqueues (l.map g) d (l.foldl (fun x a => notify (g a) x) d) := by
  induction l generalizing d with
  | nil => exact .of_clp rfl
  | cons a l ih => exact (notify_enqueues (g a) d).trans (ih _)

/-! ### The notices of an event (R95) -/

/-- BRAKE_LEVEL where what it carries has changed. -/
def levelNotices (old new : Bdt) : List Notice :=
  if new.applied = old.applied ∧ new.governing = old.governing ∧ new.hold = old.hold then []
  else [.brakeLevel new.applied new.governing new.hold]

theorem tableNotices_enqueues (old : Bdt) (d : Device) :
    Enqueues ((changedEntries old.entries d.bdt.entries).map demandNotice ++ levelNotices old d.bdt) d
      (tableNotices old d) := by
  have demands := foldl_enqueues demandNotice (changedEntries old.entries d.bdt.entries) d
  unfold tableNotices levelNotices
  simp only [eq_comm (a := d.bdt.applied), eq_comm (a := d.bdt.governing), eq_comm (a := d.bdt.hold)]
  split
  · rwa [List.append_nil]
  · exact demands.trans (notify_enqueues _ _)

/-- Some OUTBOX_FULLs join the queue. -/
def EnqueuesFull (d e : Device) : Prop :=
  ∃ fulls : List UplinkKind, Enqueues (fulls.map Notice.outboxFull) d e

theorem EnqueuesFull.of_clp (h : e.clp = d.clp) : EnqueuesFull d e := ⟨[], .of_clp h⟩

theorem EnqueuesFull.trans (h : EnqueuesFull d e) (k : EnqueuesFull e f) : EnqueuesFull d f := by
  obtain ⟨l, h⟩ := h
  obtain ⟨m, k⟩ := k
  refine ⟨l ++ m, ?_⟩
  rw [List.map_append]
  exact h.trans k

theorem queueEntry_enqueues (k : UplinkKind) (p : List Byte) (d : Device) :
    EnqueuesFull d (queueEntry k p d).1 := by
  unfold queueEntry
  split
  · refine .of_clp ?_
    dsimp only
    split
    · rfl
    · unfold dropQueuedReport
      split <;> rfl
  · exact ⟨[k], notify_enqueues _ d⟩

theorem callPosition_enqueues (d : Device) : EnqueuesFull d (callPosition d) := by
  unfold callPosition
  split
  · exact .of_clp rfl
  · split
    · exact .of_clp rfl
    · exact ⟨[.positionReport], notify_enqueues _ d⟩

theorem tableReports_enqueues (old : Bdt) (d : Device) : EnqueuesFull d (tableReports old d) := by
  have events : ∀ (l : List Entry) (x : Device),
      EnqueuesFull x (l.foldl (fun x e => callEvent e x) x) := by
    intro l
    induction l with
    | nil => exact fun _ => .of_clp rfl
    | cons e l ih => exact fun x => (queueEntry_enqueues _ _ x).trans (ih _)
  unfold tableReports
  dsimp only
  split
  · exact (callPosition_enqueues d).trans (events _ _)
  · exact events _ d

theorem blendAfter_clp (old : Bdt) (d : Device) : (blendAfter old d).clp = d.clp := by
  unfold blendAfter
  (repeat' split) <;> rfl

/-- What one event of the table queues (R95, log 24). -/
theorem tableEvent_enqueues (g : List Entry → List Entry) (d : Device) :
    ∃ fulls : List UplinkKind, Enqueues
      ((changedEntries d.bdt.entries (tableEvent g d).bdt.entries).map demandNotice
        ++ levelNotices d.bdt (tableEvent g d).bdt ++ fulls.map Notice.outboxFull) d
      (tableEvent g d) := by
  have noticed := tableNotices_enqueues d.bdt { d with bdt := bdtAfter g d }
  obtain ⟨fulls, reported⟩ :=
    tableReports_enqueues d.bdt (tableNotices d.bdt { d with bdt := bdtAfter g d })
  have drawn : Enqueues [] (tableReports d.bdt (tableNotices d.bdt { d with bdt := bdtAfter g d }))
      (tableEvent g d) := .of_clp (blendAfter_clp _ _)
  rw [tableEvent_bdt]
  refine ⟨fulls, ?_⟩
  have whole := (noticed.trans reported).trans drawn
  rwa [List.append_nil] at whole

/-! ### The rooms -/

theorem Enqueues.notices (h : Enqueues l d e) (room : d.clp.notices.length ≤ noticeRoom) :
    e.clp.notices.length ≤ noticeRoom := by
  rw [(h room).1]
  exact List.length_take_le _ _

theorem KeepsPorts.rooms (h : KeepsPorts d e)
    (notices : d.clp.notices.length ≤ noticeRoom → e.clp.notices.length ≤ noticeRoom) :
    KeepsRooms d e :=
  ⟨notices, by rw [h.replies], by rw [h.dupWindow]; exact id, by rw [h.ackList]; exact id⟩

theorem notify_rooms (n : Notice) (d : Device) : KeepsRooms d (notify n d) :=
  (notify_queues n d).ports.rooms (notify_enqueues n d).notices

theorem tableEvent_rooms (g : List Entry → List Entry) (d : Device) :
    KeepsRooms d (tableEvent g d) := by
  obtain ⟨_, h⟩ := tableEvent_enqueues g d
  exact (tableEvent_works g d).ports.rooms h.notices

/-- Along a path no queue outgrows its room and no reply is added. -/
theorem Path.rooms (p : Path k₀ o k d) : KeepsRooms o d := by
  induction p with
  | start => exact .of_eq rfl
  | weaken _ _ ih => exact ih
  | stays _ q ih => exact ih.trans q.rooms
  | event src f _ _ ih => exact ih.trans (tableEvent_rooms _ _)
  | outputs _ ih => exact ih.trans (.of_eq rfl)
  | turns _ q ih => exact ih.trans (.of_eq q.rooms)
  | renews _ q ih => exact ih.trans (.of_eq q.rooms)
  | redoors _ q ih => exact ih.trans q.rooms
  | holds f _ _ ih => exact ih.trans (tableEvent_rooms _ _)
  | agrees _ _ ih => exact ih

theorem KeepsRooms.roomLaw (h : KeepsRooms d e) (law : RoomLaw d) : RoomLaw e := by
  obtain ⟨notices, replies, dupWindow, ackList⟩ := law
  exact ⟨h.notices notices, h.replies.trans replies, h.dupWindow dupWindow, h.ackList ackList⟩

end Sys2Proof.Machine
end

section
/-! The shared operations as paths: notices, events of the table, the brake test, the doors, the mode and the
supervision. Each operation's path is its moves in their order. -/

namespace Sys2Proof.Machine

variable {k₀ k : Stale} {o d e : Device}

/-! ### Moves, and what they bring up to date -/

theorem sight_eq (bdt : e.bdt = d.bdt) (bau : e.bau = d.bau) (mdc : e.mdc = d.mdc)
    (odu : e.odu = d.odu) (dcu : e.dcu = d.dcu) : e.sight = d.sight := by
  cases d
  cases e
  simp only at bdt bau mdc odu dcu
  subst bdt bau mdc odu dcu
  rfl

/-- Notices and reports are queued, and nothing else is done. -/
theorem Path.queues (h : Path k₀ o k d) (queued : Queues d e) (blocks : KeepsBlocks d e)
    (notices : d.clp.notices.length ≤ noticeRoom → e.clp.notices.length ≤ noticeRoom) :
    Path k₀ o k e :=
  h.stays (.of_sight (sight_eq queued.bdt queued.bau blocks.mdc blocks.odu blocks.dcu)
    (queued.ports.rooms notices))

theorem EnqueuesFull.notices (h : EnqueuesFull d e) (room : d.clp.notices.length ≤ noticeRoom) :
    e.clp.notices.length ≤ noticeRoom := by
  obtain ⟨_, h⟩ := h
  exact h.notices room

@[simp] theorem notify_path (n : Notice) (h : Path k₀ o k d) : Path k₀ o k (notify n d) :=
  h.queues (notify_queues n d) (notify_keeps n d) (notify_enqueues n d).notices

@[simp] theorem callPosition_path (h : Path k₀ o k d) : Path k₀ o k (callPosition d) :=
  h.queues (callPosition_queues d) (callPosition_keeps d) (callPosition_enqueues d).notices

@[simp] theorem queueEntry_path (x : UplinkKind) (p : List Byte) (h : Path k₀ o k d) :
    Path k₀ o k (queueEntry x p d).1 :=
  h.queues (queueEntry_queues x p d) (queueEntry_keeps x p d) (queueEntry_enqueues x p d).notices

/-- What the outputs follow changes, and they are set behind it. -/
theorem Path.redrawn (h : Path k₀ o k d) (q : Turns d e) : Path k₀ o k (setOutputs e) :=
  (h.turns q).outputs.weaken ⟨id, nofun, id⟩

@[simp] theorem setOutputs_path (h : Path k₀ o k d) : Path k₀ o k (setOutputs d) :=
  h.redrawn ⟨rfl, rfl, rfl, rfl⟩

theorem Reacts.of_ne {src : Source} {f : Entry → Entry} {t : Bdt} (hs : src ≠ .doorHold)
    (hf : ∀ x, (f x).src = x.src) : Reacts src f t := ⟨hf, fun h => absurd h hs⟩

theorem tableEvent_path {src : Source} {f : Entry → Entry} (q : Reacts src f d.bdt)
    (h : Path k₀ o k d) : Path k₀ o k (tableEvent (onEntry src f) d) :=
  (h.event src f q).weaken k.settled_le

/-! ### The brake test at an event (R117, R119) -/

@[simp] theorem rollawayAfterTest_path (h : Path k₀ o k d) : Path k₀ o k (rollawayAfterTest d) := by
  unfold rollawayAfterTest
  split
  · exact tableEvent_path (.of_ne nofun (raiseEntry_src _)) h
  · exact h

@[simp] theorem reportTestFailure_path (c : EndCause) (h : Path k₀ o k d) :
    Path k₀ o k (reportTestFailure c d) := by
  have raised := tableEvent_path (src := .brakeTest) (.of_ne nofun
    (raiseEntry_src (raiseOf .none none d))) h
  have cleared := tableEvent_path (src := .brakeTest) (.of_ne nofun clearEntry_src) raised
  unfold reportTestFailure
  dsimp only
  split
  · exact tableEvent_path (.of_ne nofun (raiseEntry_src _)) cleared
  · exact cleared

@[simp] theorem endTest_path (r : TestResult) (c : EndCause) (h : Path k₀ o k d) :
    Path k₀ o k (endTest r c d) := by
  have written : Path k₀ o k (writeTestEnd r c (movementAfter d.bau.test d.bau.run) (endPhase d)) :=
    (h.redrawn (e := { d with bau := { d.bau with run := none } }) ⟨rfl, rfl, rfl, rfl⟩).unseen rfl
  unfold endTest
  dsimp only
  split
  · exact notify_path _ (rollawayAfterTest_path (reportTestFailure_path _ written))
  · exact notify_path _ (rollawayAfterTest_path written)

@[simp] theorem abortIfEmergency_path (h : Path k₀ o k d) : Path k₀ o k (abortIfEmergency d) := by
  unfold abortIfEmergency
  split <;> simp [h]

/-! ### Raises and clears -/

/-- An event brings the table and the outputs up to date, whatever it does to a test. -/
theorem bdtEvent_settles {src : Source} {f : Entry → Entry} (q : Reacts src f d.bdt)
    (h : Path k₀ o k d) : Path k₀ o k.settled (bdtEvent (onEntry src f) d) :=
  abortIfEmergency_path (h.event src f q)

theorem bdtEvent_path {src : Source} {f : Entry → Entry} (q : Reacts src f d.bdt)
    (h : Path k₀ o k d) : Path k₀ o k (bdtEvent (onEntry src f) d) :=
  (bdtEvent_settles q h).weaken k.settled_le

theorem onEntry_id (src : Source) : onEntry src id = id := by
  funext l
  simp [onEntry]

theorem bdtEvent_id_settles (h : Path k₀ o k d) : Path k₀ o k.settled (bdtEvent id d) := by
  rw [← onEntry_id .mode]
  exact bdtEvent_settles (.of_ne nofun fun _ => rfl) h

theorem raiseWith_settles {src : Source} (hs : src ≠ .doorHold) (l : Level) (x : Option Nat)
    (h : Path k₀ o k d) : Path k₀ o k.settled (raiseWith src l x d) := by
  unfold raiseWith
  split
  · exact bdtEvent_settles (.of_ne hs clearEntry_src) h
  · exact bdtEvent_settles (.of_ne hs (raiseEntry_src _)) h

@[simp] theorem raiseWith_path {src : Source} (hs : src ≠ .doorHold) (l : Level) (x : Option Nat)
    (h : Path k₀ o k d) : Path k₀ o k (raiseWith src l x d) :=
  (raiseWith_settles hs l x h).weaken k.settled_le

@[simp] theorem clear_path {src : Source} (hs : src ≠ .doorHold) (h : Path k₀ o k d) :
    Path k₀ o k (clear src d) := bdtEvent_path (.of_ne hs clearEntry_src) h

@[simp] theorem setCondition_path {src : Source} (hs : src ≠ .doorHold) (b : Bool)
    (h : Path k₀ o k d) : Path k₀ o k (setCondition src b d) := by
  unfold setCondition raise
  (repeat' split) <;> simp [h, hs]

/-- A raise brings DOOR_HOLD to present: its source defers no raise (R89, R101). -/
theorem raiseEntry_holdsAt (r : Raise) : HoldsAt true (raiseEntry r) := by
  refine ⟨raiseEntry_src r, fun x hs hx => ⟨?_, raiseEntry_cond r x⟩⟩
  obtain ⟨flow, floor, ⟨active, -⟩ | ⟨idle, -⟩⟩ := hx
  · simp [Entry.holdsDoor, raiseEntry, active, hs, flow, floor, Source.carriesLevel]
  · simp [Entry.holdsDoor, raiseEntry, idle, hs, flow, floor]

theorem clearEntry_holdsAt : HoldsAt false clearEntry := by
  refine ⟨clearEntry_src, fun x hs hx => ⟨?_, clearEntry_cond x⟩⟩
  obtain ⟨flow, floor, ⟨active, cond⟩ | ⟨idle, cond⟩⟩ := hx
  · simp [Entry.holdsDoor, clearEntry, active, cond, flow, floor]
  · simp [Entry.holdsDoor, clearEntry, idle, cond, flow, floor]

/-- DOOR_HOLD judged is up to date with the doors (R129). -/
theorem doorHold_settles (h : Path k₀ o k d) :
    Path k₀ o { k with doors := false } (setCondition .doorHold (!allSecured d) d) := by
  have fresh {l : Stale} : Stale.fresh.le l := ⟨nofun, nofun, nofun⟩
  unfold setCondition
  split
  next unsecured =>
    have raised := h.holds (raiseEntry (raiseOf .none none d))
      (unsecured.1 ▸ raiseEntry_holdsAt _)
    exact (abortIfEmergency_path raised).weaken fresh
  next present =>
    split
    next secured =>
      have cleared := h.holds clearEntry (Bool.eq_false_iff.mpr secured.1 ▸ clearEntry_holdsAt)
      exact (abortIfEmergency_path cleared).weaken fresh
    next absent =>
      refine h.agrees ?_
      cases hb : allSecured d <;> simp_all

/-! ### Brake actuation -/

theorem judgeBlend_turns (d : Device) : Turns d (judgeBlend d) := ⟨rfl, rfl, rfl, rfl⟩

@[simp] theorem refreshBrakes_path (h : Path k₀ o k d) : Path k₀ o k (refreshBrakes d) :=
  h.redrawn (judgeBlend_turns d)

/-- The outputs set behind a move that left them out of date. -/
theorem Path.drawn (h : Path k₀ o { k with outputs := true } d) : Path k₀ o k (setOutputs d) :=
  h.outputs.weaken ⟨id, nofun, id⟩

@[simp] theorem judgeBrakeFault_path (b : Bool) (h : Path k₀ o k d) :
    Path k₀ o k (judgeBrakeFault b d) := by
  unfold judgeBrakeFault raise
  (repeat' split) <;> simp [h]

/-- A channel's feedback, timer and fault are not in sight (R105, R111). -/
theorem setChannel_path (ch : Channel) {c : ChannelRec}
    (same : c.drive = (d.bau.channels.ofChannel ch).drive) (h : Path k₀ o k d) :
    Path k₀ o k { d with bau := { d.bau with channels := d.bau.channels.setChannel ch c } } := by
  refine h.unseen ?_
  have shown : Device.shown { d with bau := { d.bau with
      channels := d.bau.channels.setChannel ch c } } = d.shown := by
    cases ch with
    | a => exact congrArg (fun x => (x, d.shown.2)) same
    | b => exact congrArg (fun x => (d.shown.1, x, d.shown.2.2)) same
  exact congrArg (fun x => ((d.cut, d.figures, x, d.called, d.dcu.doors), d.waiting)) shown

@[simp] theorem judgeChannel_path (ch : Channel) (h : Path k₀ o k d) :
    Path k₀ o k (judgeChannel ch d) := judgeBrakeFault_path _ (setChannel_path ch rfl h)

@[simp] theorem beginPhase_path (p : Phase) (n : Nat) (h : Path k₀ o k d) :
    Path k₀ o k (beginPhase p n d) := by
  unfold beginPhase
  split
  · exact h.redrawn ⟨rfl, rfl, rfl, rfl⟩
  · exact endTest_path _ _ h

@[simp] theorem notePhaseMovement_path (h : Path k₀ o k d) : Path k₀ o k (notePhaseMovement d) :=
  h.unseen rfl

@[simp] theorem nextPhase_path (r : TestRun) (h : Path k₀ o k d) : Path k₀ o k (nextPhase r d) := by
  unfold nextPhase
  (repeat' split) <;> simp [h]

/-- The movement of a phase is not in sight: its pattern follows its number and its guard (R115). -/
theorem moved_seen {r : TestRun} (run : d.bau.run = some r) (n : Nat) :
    Device.seen { d with bau := { d.bau with run := some { r with movement := n } } } = d.seen := by
  simp [Device.seen, Device.sight, Device.called, pattern, run]
  exact ⟨⟨rfl, rfl, rfl, rfl, rfl, rfl⟩, rfl⟩

@[simp] theorem testMovement_path (n : Nat) (h : Path k₀ o k d) : Path k₀ o k (testMovement n d) := by
  unfold testMovement
  split
  next r c run _ =>
    have moved := h.unseen (moved_seen run (r.movement + n))
    dsimp only
    (repeat' split)
    · exact endTest_path _ _ moved
    · exact moved
    · exact h
  · exact h

/-- The creep guard or the end of the test: the outputs are set behind it (R116, R117). -/
theorem testStandstillLost_path (h : Path k₀ o k d) :
    Path k₀ o { k with outputs := true } (testStandstillLost d) := by
  have kept {x : Device} (h : Path k₀ o k x) : Path k₀ o { k with outputs := true } x :=
    h.weaken ⟨id, fun _ => rfl, id⟩
  unfold testStandstillLost
  split
  · split
    · exact h.turns ⟨rfl, rfl, rfl, rfl⟩
    · exact kept (endTest_path _ _ h)
  · exact kept h

theorem clearGuard_turns (d : Device) : Turns d (clearGuard d) := ⟨rfl, rfl, rfl, rfl⟩

/-! ### Door records -/

theorem get_set (q : Quad DoorRec) (n m : DoorNo) (r : DoorRec) :
    (q.set n r).get m = if m = n then r else q.get m := by
  cases n <;> cases m <;> rfl

theorem lawfulDoors_set {q : Quad DoorRec} {n : DoorNo} {r : DoorRec} (h : lawfulDoors q)
    (hr : r.lawful) : lawfulDoors (q.set n r) := by
  intro m
  rw [get_set]
  split
  · exact hr
  · exact h m

theorem all_set {q : Quad DoorRec} {n : DoorNo} {r : DoorRec}
    (h : r.secured = (q.get n).secured) : (q.set n r).all DoorRec.secured = q.all DoorRec.secured := by
  cases n <;> simp_all [Quad.all, Quad.set, Quad.get]

/-- A lawful record stays so, and the door secured or not. -/
structure KeepsDoor (r s : DoorRec) : Prop where
  lawful : r.lawful → s.lawful
  secured : r.lawful → s.secured = r.secured

theorem KeepsDoor.refl (r : DoorRec) : KeepsDoor r r := ⟨id, fun _ => rfl⟩

/-- A door record written, which may change what DOOR_HOLD follows. -/
theorem setDoor_stale (n : DoorNo) {r : DoorRec} (hr : (d.dcu.doors.get n).lawful → r.lawful)
    (h : Path k₀ o k d) : Path k₀ o { k with doors := true } (setDoor n r d) := by
  have written : Path k₀ o { k with doors := true }
      { d with dcu := { d.dcu with doors := d.dcu.doors.set n r } } :=
    h.redoors ⟨rfl, rfl, rfl, rfl, fun l => lawfulDoors_set l (hr (l n)), .of_eq rfl⟩
  unfold setDoor
  dsimp only
  split <;> simp [written]

/-- A door record written that leaves the door secured or not. -/
theorem setDoor_path (n : DoorNo) {r : DoorRec} (hr : KeepsDoor (d.dcu.doors.get n) r)
    (h : Path k₀ o k d) : Path k₀ o k (setDoor n r d) := by
  have written : Path k₀ o k { d with dcu := { d.dcu with doors := d.dcu.doors.set n r } } :=
    h.stays ⟨rfl, rfl, rfl, rfl,
      fun l => ⟨lawfulDoors_set l (hr.lawful (l n)), all_set (hr.secured (l n))⟩, .of_eq rfl⟩
  unfold setDoor
  dsimp only
  split <;> simp [written]

theorem eachDoor_path {g : DoorNo → DoorRec → DoorRec} (hg : ∀ n r, KeepsDoor r (g n r))
    (h : Path k₀ o k d) : Path k₀ o k (eachDoor g d) :=
  setDoor_path _ (hg _ _) (setDoor_path _ (hg _ _) (setDoor_path _ (hg _ _)
    (setDoor_path _ (hg _ _) h)))

theorem closeDoor_keeps (r : DoorRec) : KeepsDoor r (closeDoor r) := by
  unfold closeDoor
  split
  · exact ⟨fun h => ⟨h.1, Nat.zero_le 5⟩, fun _ => rfl⟩
  · exact ⟨fun _ => ⟨fun h => absurd rfl h, Nat.zero_le 5⟩, fun _ => rfl⟩

theorem KeepsDoor.ite {p : Prop} [Decidable p] {r s : DoorRec} (h : KeepsDoor r s) :
    KeepsDoor r (if p then s else r) := by
  split
  · exact h
  · exact .refl r

@[simp] theorem withdrawRelease_path (h : Path k₀ o k d) : Path k₀ o k (withdrawRelease d) := by
  unfold withdrawRelease
  split
  · exact h
  · exact eachDoor_path (fun _ r => (closeDoor_keeps r).ite) (h.unseen rfl)

@[simp] theorem judgeRelease_path (h : Path k₀ o k d) : Path k₀ o k (judgeRelease d) := by
  unfold judgeRelease
  (repeat' split) <;> simp [h]

@[simp] theorem judgeMoving_path (b : Bool) (h : Path k₀ o k d) : Path k₀ o k (judgeMoving b d) := by
  unfold judgeMoving
  dsimp only
  (repeat' split) <;> simp [h]

/-- The door conditions judged bring DOOR_HOLD up to date (R129). -/
theorem judgeConditions_settles (b : Bool) (h : Path k₀ o { k with doors := true } d) :
    Path k₀ o k (judgeConditions b d) := by
  have held : Path k₀ o k (setCondition .doorHold (!allSecured d) d) :=
    (doorHold_settles h).weaken ⟨id, id, nofun⟩
  exact setCondition_path (src := .passengerAlarm) nofun _ (judgeMoving_path b held)

theorem faultDoor_lawful {r : DoorRec} (h : r.lawful) : (faultDoor r).lawful := by
  unfold faultDoor
  split
  · exact h
  · exact ⟨fun k => absurd rfl k, h.2⟩

/-- Without a dwell any state is lawful. -/
theorem lawful_of_no_dwell {r : DoorRec} (dwell : r.dwell = none) (attempts : r.attempts ≤ 5) :
    r.lawful := ⟨fun h => absurd dwell h, attempts⟩

theorem shownDoor_lawful (x : Report) {r : DoorRec} (dwell : r.dwell = none) (h : r.lawful) :
    (shownDoor x r).lawful := by
  have attempts := h.2
  unfold shownDoor
  dsimp only
  (repeat' split) <;> exact lawful_of_no_dwell dwell (by simp [attempts])

theorem judgedDoor_lawful (c : Option CarConfig) (now : Nat) (x : Report) {r : DoorRec}
    (dwell : r.dwell = none) (h : r.lawful) : (judgedDoor c now x r).lawful := by
  unfold judgedDoor
  split
  · unfold obstructDoor
    split
    · exact ⟨fun _ => rfl, h.2⟩
    · exact lawful_of_no_dwell dwell h.2
  · exact shownDoor_lawful x dwell h

/-- A report leaves a door record lawful: a dwell runs on only for the REVERSING door it runs for
(R128, R134). -/
theorem reportedDoor_lawful (c : Option CarConfig) (now : Nat) (x : Report) {r : DoorRec}
    (h : r.lawful) : (reportedDoor c now x r).lawful := by
  have resting : r.state ≠ .reversing → r.dwell = none := fun hs =>
    not_not.mp fun hd => hs (h.1 hd)
  unfold reportedDoor
  split
  · exact faultDoor_lawful h
  · split
    next fault => exact judgedDoor_lawful c now x (resting (by rw [fault]; nofun)) h
    next =>
      split
      · exact h
      · split
        · split
          · exact lawful_of_no_dwell rfl h.2
          · exact h
        next ended =>
          refine judgedDoor_lawful c now x (not_not.mp fun hd => ended ⟨h.1 hd, ?_⟩) h
          exact Option.isSome_iff_ne_none.mpr hd

@[simp] theorem takeReport_path (n : DoorNo) (x : Report) (h : Path k₀ o k d) :
    Path k₀ o k (takeReport n x d) := by
  unfold takeReport
  dsimp only
  split
  · exact h
  · exact judgeConditions_settles _ (setDoor_stale n (fun l => reportedDoor_lawful _ _ _ l) h)

@[simp] theorem loseDoor_path (n : DoorNo) (h : Path k₀ o k d) : Path k₀ o k (loseDoor n d) := by
  unfold loseDoor
  dsimp only
  split
  · exact h
  · exact judgeConditions_settles false (setDoor_stale n faultDoor_lawful h)

@[simp] theorem judgeDoorsMoving_path (h : Path k₀ o k d) : Path k₀ o k (judgeDoorsMoving d) := by
  unfold judgeDoorsMoving
  split <;> simp [h]

/-! ### Mode and supervision -/

@[simp] theorem refreshModeEntry_path (h : Path k₀ o k d) : Path k₀ o k (refreshModeEntry d) :=
  raiseWith_path (by decide) _ _ h

@[simp] theorem modeNotice_path (h : Path k₀ o k d) : Path k₀ o k (modeNotice d) := notify_path _ h

@[simp] theorem rollawayTest_path (h : Path k₀ o k d) : Path k₀ o k (rollawayTest d) := by
  unfold rollawayTest
  split <;> simp [h]

@[simp] theorem quietSupervisor_path (h : Path k₀ o k d) : Path k₀ o k (quietSupervisor d) := by
  have cleared := setCondition_path (src := .authority) nofun false (setCondition_path
    (src := .overspeedEb) nofun false (setCondition_path (src := .overspeedSb) nofun false h))
  unfold quietSupervisor
  dsimp only
  split
  · exact cleared.unseen rfl
  · exact notify_path _ (cleared.unseen rfl)

/-- A change of mode sets the outputs behind the MODE entry (R1, R110). -/
@[simp] theorem changeMode_path (m : Mode) (h : Path k₀ o k d) : Path k₀ o k (changeMode m d) := by
  unfold changeMode
  split
  · exact h
  · have turned : Path k₀ o { k with outputs := true } { d with mdc := { d.mdc with mode := m } } :=
      h.turns ⟨rfl, rfl, rfl, rfl⟩
    have called := callPosition_path (modeNotice_path (refreshModeEntry_path turned).drawn)
    dsimp only
    split
    · exact rollawayTest_path (judgeRelease_path (quietSupervisor_path called))
    · exact rollawayTest_path (judgeRelease_path called)

@[simp] theorem reportCauses_path (h : Path k₀ o k d) : Path k₀ o k (reportCauses d) := by
  have told : ∀ a b, Path k₀ o k { d with mdc := { d.mdc with
      causePosition := a, causeRadio := b } } := fun _ _ => h.unseen rfl
  unfold reportCauses
  dsimp only
  (repeat' split)
  · exact h
  · exact modeNotice_path (told _ _)
  · exact changeMode_path _ (told _ _)

@[simp] theorem positionChanged_path (h : Path k₀ o k d) : Path k₀ o k (positionChanged d) :=
  judgeRelease_path (reportCauses_path (setCondition_path (src := .position) nofun _ h))

@[simp] theorem ssvEvent_path {src : Source} (hs : src ≠ .doorHold) (a b : Bool) (x : Option Nat)
    (h : Path k₀ o k d) : Path k₀ o k (ssvEvent src a b x d) := by
  unfold ssvEvent
  (repeat' split) <;> simp [h, hs]

@[simp] theorem evaluate_path (h : Path k₀ o k d) : Path k₀ o k (evaluate d) := by
  unfold evaluate
  split
  · exact h
  next c _ =>
    have told := ssvEvent_path (src := .authority) nofun d.ssv.authority (evaluated c d).authority none
      (ssvEvent_path (src := .overspeedEb) nofun d.ssv.overspeedEb (evaluated c d).overspeedEb none
        (ssvEvent_path (src := .overspeedSb) nofun d.ssv.overspeedSb (evaluated c d).overspeedSb
          (some c.aSb) (h.unseen (e := { d with ssv := evaluated c d }) rfl)))
    dsimp only
    split
    · split
      · exact told
      · exact notify_path _ told
    · exact h

end Sys2Proof.Machine
end

section
/-! Odometry, radio, authority and telegrams as paths. -/

namespace Sys2Proof.Machine

variable {k₀ k : Stale} {o d : Device}

/-! ### Placement and mesh -/

@[simp] theorem chooseSource_path (h : Path k₀ o k d) : Path k₀ o k (chooseSource d) := by
  unfold chooseSource
  dsimp only
  (repeat' split) <;> exact h.unseen rfl

@[simp] theorem rackEntryTest_path (h : Path k₀ o k d) : Path k₀ o k (rackEntryTest d) := by
  unfold rackEntryTest
  (repeat' split) <;> simp [h]

@[simp] theorem mapBogies_path (f : Bogie → MeshRec → MeshRec) (h : Path k₀ o k d) :
    Path k₀ o k (mapBogies f d) := h.unseen rfl

@[simp] theorem setMesh_path (w : Bogie) (m : MeshRec) (h : Path k₀ o k d) :
    Path k₀ o k (setMesh w m d) := h.unseen rfl

@[simp] theorem meshChanged_path (h : Path k₀ o k d) : Path k₀ o k (meshChanged d) :=
  rackEntryTest_path (mapBogies_path _ (chooseSource_path h))

@[simp] theorem placeBogies_path (h : Path k₀ o k d) : Path k₀ o k (placeBogies d) := by
  unfold placeBogies
  dsimp only
  split <;> simp [h]

@[simp] theorem placeAgain_path (h : Path k₀ o k d) : Path k₀ o k (placeAgain d) :=
  positionChanged_path (placeBogies_path h)

@[simp] theorem faultBogie_path (w : Bogie) (h : Path k₀ o k d) : Path k₀ o k (faultBogie w d) :=
  positionChanged_path (meshChanged_path (setCondition_path (src := .mesh) nofun _
    ((setMesh_path w (meshStart .fault) h).unseen rfl)))

@[simp] theorem recoverBogies_path (h : Path k₀ o k d) : Path k₀ o k (recoverBogies d) :=
  positionChanged_path (meshChanged_path (mapBogies_path _ h))

@[simp] theorem endMeshWindow_path (w : Bogie) (m : MeshRec) (h : Path k₀ o k d) :
    Path k₀ o k (endMeshWindow w m d) := by
  unfold endMeshWindow
  dsimp only
  (repeat' split) <;> simp [h]

@[simp] theorem rackToothMesh_path (w : Bogie) (h : Path k₀ o k d) :
    Path k₀ o k (rackToothMesh w d) := by
  have meshed := positionChanged_path (meshChanged_path (setMesh_path w (meshStart .meshed) h))
  unfold rackToothMesh
  dsimp only
  (repeat' split) <;> simp [h, meshed]

@[simp] theorem pinionToothMesh_path (w : Bogie) (h : Path k₀ o k d) :
    Path k₀ o k (pinionToothMesh w d) := by
  unfold pinionToothMesh
  dsimp only
  split <;> simp [h]

@[simp] theorem missingRack_path (n : Nat) (w : Bogie) (h : Path k₀ o k d) :
    Path k₀ o k (missingRack n w d) := by
  unfold missingRack
  dsimp only
  (repeat' split) <;> simp [h]

/-! ### Calibration -/

@[simp] theorem castVote_path (c : CarConfig) (x : Calib) (v : Leaning) (h : Path k₀ o k d) :
    Path k₀ o k (castVote c x v d) := by
  unfold castVote
  dsimp only
  (repeat' split)
  · exact h.unseen rfl
  · exact notify_path _ (h.unseen rfl)
  · exact h.unseen rfl

@[simp] theorem endCalWindow_path (n : Nat) (h : Path k₀ o k d) : Path k₀ o k (endCalWindow n d) := by
  unfold endCalWindow
  (repeat' split)
  · exact castVote_path _ _ _ (h.unseen rfl)
  · exact h.unseen rfl
  · exact h.unseen rfl

@[simp] theorem calTooth_path (x : Sense) (h : Path k₀ o k d) : Path k₀ o k (calTooth x d) := by
  unfold calTooth
  (repeat' split)
  · exact h
  · exact h.unseen rfl
  · exact h.unseen rfl
  · exact endCalWindow_path _ h
  · exact h.unseen rfl

@[simp] theorem calPulse_path (x : Sense) (h : Path k₀ o k d) : Path k₀ o k (calPulse x d) := by
  unfold calPulse
  (repeat' split) <;> exact h.unseen rfl

/-! ### Distance and standstill -/

@[simp] theorem movePosition_path (b : Bool) (n : Nat) (x : Option Dir) (h : Path k₀ o k d) :
    Path k₀ o k (movePosition b n x d) := by
  unfold movePosition
  dsimp only
  (repeat' split) <;> exact h.unseen rfl

@[simp] theorem rollawayDistance_path (n : Nat) (x : Option Dir) (h : Path k₀ o k d) :
    Path k₀ o k (rollawayDistance n x d) := rollawayTest_path (h.unseen rfl)

@[simp] theorem takeDistance_path (b : Bool) (n : Nat) (x : Option Dir) (h : Path k₀ o k d) :
    Path k₀ o k (takeDistance b n x d) :=
  rollawayDistance_path _ _ (testMovement_path _ (placeAgain_path (movePosition_path _ _ _
    (h.unseen rfl))))

@[simp] theorem standstillCleared_path (h : Path k₀ o k d) : Path k₀ o k (standstillCleared d) :=
  judgeDoorsMoving_path (judgeRelease_path (testStandstillLost_path h).drawn)

@[simp] theorem clearStartUpHold_path (h : Path k₀ o k d) : Path k₀ o k (clearStartUpHold d) := by
  unfold clearStartUpHold
  split
  · exact refreshModeEntry_path (h.unseen rfl)
  · exact h

@[simp] theorem endWithdrawn_path (h : Path k₀ o k d) : Path k₀ o k (endWithdrawn d) := by
  unfold endWithdrawn
  (repeat' split)
  · exact rollawayTest_path (h.unseen rfl)
  · exact h
  · exact h

/-- Up to date by a staleness of which only the table and the outputs have been brought up. -/
theorem Path.brought (h : Path k₀ o { k with table := true, outputs := true }.settled d) :
    Path k₀ o k d := h.weaken ⟨nofun, nofun, id⟩

/-- The event behind the start-up hold brings the table up to the indication just set (R94). -/
@[simp] theorem setStandstill_path (h : Path k₀ o k d) : Path k₀ o k (setStandstill d) := by
  have still : Path k₀ o { k with table := true, outputs := true }
      (zeroRollaway { d with odu := { d.odu with standstill := true, dir := none } }) :=
    h.renews ⟨rfl, rfl, fun _ => rfl, rfl, rfl⟩
  have cleared := setCondition_path (src := .rollaway) nofun false
    (setCondition_path (src := .mesh) nofun false still)
  have settled := (bdtEvent_id_settles (clearStartUpHold_path cleared)).brought
  have guarded := settled.turns (clearGuard_turns _)
  exact endWithdrawn_path ((guarded.turns (judgeBlend_turns _)).drawn (k := k))

@[simp] theorem countQuiet_path (h : Path k₀ o k d) : Path k₀ o k (countQuiet d) := by
  unfold countQuiet
  dsimp only
  (repeat' split)
  · exact h.unseen rfl
  · exact setStandstill_path (h.unseen rfl)
  · exact h.unseen rfl

@[simp] theorem twentiethQuiet_path (h : Path k₀ o k d) : Path k₀ o k (twentiethQuiet d) := by
  unfold twentiethQuiet
  split
  · exact setStandstill_path (h.unseen rfl)
  · exact h

/-! ### The radio link -/

@[simp] theorem dropEntry_path (n : Byte) (h : Path k₀ o k d) : Path k₀ o k (dropEntry n d) :=
  h.unseen rfl

@[simp] theorem mapEntry_path (n : Byte) (f : OutEntry → OutEntry) (h : Path k₀ o k d) :
    Path k₀ o k (mapEntry n f d) := h.unseen rfl

@[simp] theorem roomForLogon_path (h : Path k₀ o k d) : Path k₀ o k (roomForLogon d) := by
  unfold roomForLogon dropQueuedReport dropOldestReport
  (repeat' split) <;> simp [h]

@[simp] theorem queueLogon_path (h : Path k₀ o k d) : Path k₀ o k (queueLogon d) := by
  unfold queueLogon
  dsimp only
  split
  · exact h.unseen rfl
  · exact (roomForLogon_path h).unseen rfl

@[simp] theorem endLogon_path (h : Path k₀ o k d) : Path k₀ o k (endLogon d) := by
  unfold endLogon
  dsimp only
  split <;> exact h.unseen rfl

@[simp] theorem enterLink_path (s : LinkState) (h : Path k₀ o k d) : Path k₀ o k (enterLink s d) := by
  cases s with
  | offline => exact h.unseen rfl
  | loggingOn => exact queueLogon_path h
  | lost => exact queueLogon_path h
  | refused => exact endLogon_path h
  | online => exact (endLogon_path h).unseen rfl

@[simp] theorem linkActions_path (s : LinkState) (h : Path k₀ o k d) :
    Path k₀ o k (linkActions s d) := by
  have entered := enterLink_path s (h.unseen (e := { d with vru := { d.vru with link := s } }) rfl)
  unfold linkActions
  dsimp only
  split
  · exact entered.unseen rfl
  · exact entered

@[simp] theorem linkTo_path (s : LinkState) (v : LinkEvent) (h : Path k₀ o k d) :
    Path k₀ o k (linkTo s v d) :=
  reportCauses_path (setCondition_path (src := .radioLoss) nofun _
    (notify_path _ (linkActions_path s h)))

@[simp] theorem silenceExpires_path (h : Path k₀ o k d) : Path k₀ o k (silenceExpires d) := by
  unfold silenceExpires
  split <;> simp [h]

@[simp] theorem judgeShadow_path (h : Path k₀ o k d) : Path k₀ o k (judgeShadow d) := by
  unfold judgeShadow
  dsimp only
  (repeat' split)
  · exact h
  · exact silenceExpires_path (h.unseen rfl)
  · exact h.unseen rfl

@[simp] theorem linkFlagCleared_path (h : Path k₀ o k d) : Path k₀ o k (linkFlagCleared d) := by
  unfold linkFlagCleared
  split <;> simp [h]

@[simp] theorem linkCommit_path (h : Path k₀ o k d) : Path k₀ o k (linkCommit d) := by
  unfold linkCommit
  (repeat' split) <;> simp [h]

/-! ### Acknowledgements and the transmitter -/

/-- The ACK list takes an ACK where it has room (R160). -/
@[simp] theorem pushAck_path (n : Byte) (r : Result) (h : Path k₀ o k d) :
    Path k₀ o k (pushAck n r d) := by
  unfold pushAck
  split
  next room =>
    refine h.stays (.of_sight rfl ⟨id, le_rfl, id, fun _ => ?_⟩)
    simpa using room
  · exact h

/-- The duplicate window drops its oldest number where it is full (R159). -/
@[simp] theorem enterWindow_path (n : Byte) (r : Result) (h : Path k₀ o k d) :
    Path k₀ o k (enterWindow n r d) := by
  refine h.stays (.of_sight rfl ⟨id, le_rfl, fun room => ?_, id⟩)
  unfold enterWindow
  dsimp only
  rw [List.length_append, List.length_singleton]
  by_cases space : d.vru.dupWindow.length < windowRoom
  · rw [if_pos space]
    exact space
  · rw [if_neg space, List.length_drop]
    have positive : 0 < d.vru.dupWindow.length :=
      Nat.lt_of_lt_of_le (by decide : 0 < windowRoom) (Nat.le_of_not_lt space)
    rwa [Nat.sub_add_cancel positive]

@[simp] theorem acknowledge_path (n : Byte) (h : Path k₀ o k d) : Path k₀ o k (acknowledge n d) := by
  unfold acknowledge
  (repeat' split) <;> simp [h]

@[simp] theorem ackTimeout_path (n : Byte) (h : Path k₀ o k d) : Path k₀ o k (ackTimeout n d) := by
  unfold ackTimeout
  (repeat' split) <;> simp [h]

@[simp] theorem telegramEnd_path (h : Path k₀ o k d) : Path k₀ o k (telegramEnd d) := by
  unfold telegramEnd
  (repeat' split) <;> exact h.unseen rfl

@[simp] theorem logonExpires_path (h : Path k₀ o k d) : Path k₀ o k (logonExpires d) := by
  unfold logonExpires
  split <;> exact h.unseen rfl

@[simp] theorem reportExpires_path (h : Path k₀ o k d) : Path k₀ o k (reportExpires d) := by
  unfold reportExpires
  split
  · exact callPosition_path (h.unseen rfl)
  · exact h

@[simp] theorem radioPump_path (h : Path k₀ o k d) : Path k₀ o k (radioPump d) := by
  unfold radioPump
  split
  · exact h
  · split
    next a rest acks =>
      refine h.stays (.of_sight rfl ⟨id, le_rfl, id, fun room => ?_⟩)
      rw [acks, List.length_cons] at room
      exact Nat.le_of_succ_le room
    next => split <;> exact h.unseen rfl

@[simp] theorem busPump_path (h : Path k₀ o k d) : Path k₀ o k (busPump d) := by
  obtain ⟨b, same, -⟩ := busPump_frame d
  rw [same]
  exact h.unseen rfl

@[simp] theorem linkPump_path (h : Path k₀ o k d) : Path k₀ o k (linkPump d) := by
  unfold linkPump
  split
  · exact h
  · split
    next r rest replies =>
      refine h.stays (.of_sight rfl ⟨id, ?_, id, id⟩)
      rw [replies]
      exact Nat.le_succ _
    next =>
      split
      next n rest notices =>
        refine h.stays (.of_sight rfl ⟨fun room => ?_, le_rfl, id, id⟩)
        rw [notices, List.length_cons] at room
        exact Nat.le_of_succ_le room
      next => exact h

@[simp] theorem finish_path (h : Path k₀ o k d) : Path k₀ o k (finish d) :=
  linkPump_path (radioPump_path (busPump_path h))

/-! ### Authority and restrictions -/

@[simp] theorem setAuthority_path (a : Option Authority) (t : Option Timer) (h : Path k₀ o k d) :
    Path k₀ o k (setAuthority a t d) := rollawayTest_path (h.unseen rfl)

@[simp] theorem takeGrant_path (p : List Byte) (h : Path k₀ o k d) :
    Path k₀ o k (takeGrant p d).1 := by
  unfold takeGrant
  dsimp only
  (repeat' split) <;> simp [h]

@[simp] theorem takeShorten_path (p : List Byte) (h : Path k₀ o k d) :
    Path k₀ o k (takeShorten p d).1 := by
  unfold takeShorten
  split <;> exact h.unseen rfl

@[simp] theorem withdrawAuthority_path (h : Path k₀ o k d) : Path k₀ o k (withdrawAuthority d) := by
  unfold withdrawAuthority
  (repeat' split)
  · exact h
  · exact setAuthority_path _ _ h
  · exact h.unseen rfl
  · exact setAuthority_path _ _ h

@[simp] theorem authorityExpires_path (h : Path k₀ o k d) : Path k₀ o k (authorityExpires d) := by
  unfold authorityExpires
  split <;> simp [h]

@[simp] theorem tighten_path (r : Restriction) (h : Path k₀ o k d) : Path k₀ o k (tighten r d) :=
  h.unseen rfl

@[simp] theorem stage_path (x : Staged) (r : Result) (h : Path k₀ o k d) :
    Path k₀ o k (stage x r d).1 := by
  unfold stage
  dsimp only
  split
  · exact h.unseen rfl
  · exact h

theorem noticePending_path (b : Bool) {x : Device × Result} (h : Path k₀ o k x.1) :
    Path k₀ o k (noticePending b x).1 := by
  unfold noticePending
  split
  · exact notify_path _ h
  · exact h

@[simp] theorem takeRestriction_path (p : List Byte) (h : Path k₀ o k d) :
    Path k₀ o k (takeRestriction p d).1 := by
  unfold takeRestriction
  split
  · exact h
  · refine noticePending_path _ ?_
    (repeat' split) <;> simp [h]

@[simp] theorem takeLift_path (p : List Byte) (h : Path k₀ o k d) :
    Path k₀ o k (takeLift p d).1 := by
  unfold takeLift
  dsimp only
  (repeat' split)
  · exact noticePending_path _ (stage_path _ _ h)
  · exact h
  · exact h

@[simp] theorem judgeRoom_path (h : Path k₀ o k d) : Path k₀ o k (judgeRoom d) := by
  unfold judgeRoom
  split <;> simp [h]

@[simp] theorem updateRestrictions_path (h : Path k₀ o k d) : Path k₀ o k (updateRestrictions d) :=
  judgeRoom_path (h.unseen rfl)

@[simp] theorem setStopOrder_path (b : Bool) (h : Path k₀ o k d) :
    Path k₀ o k (setStopOrder b d) := setCondition_path (src := .valleyStop) nofun _ (h.unseen rfl)

/-! ### Telegrams -/

@[simp] theorem logonAnswer_path (b : Byte) (h : Path k₀ o k d) : Path k₀ o k (logonAnswer b d) := by
  unfold logonAnswer
  (repeat' split) <;> simp [h]

@[simp] theorem handToAru_path (x : DownKind) (p : List Byte) (h : Path k₀ o k d) :
    Path k₀ o k (handToAru x p d).1 := by
  unfold handToAru
  split <;> simp [h]

@[simp] theorem takeAcknowledged_path (x : DownKind) (t : Telegram) (h : Path k₀ o k d) :
    Path k₀ o k (takeAcknowledged x t d) := by
  unfold takeAcknowledged
  (repeat' split)
  · exact pushAck_path _ _ h
  · exact pushAck_path _ _ h
  · exact pushAck_path _ _ (enterWindow_path _ _ (handToAru_path _ _ h))

theorem foldl_path {α : Type} {f : Device → α → Device}
    (hf : ∀ {x : Device} (a : α), Path k₀ o k x → Path k₀ o k (f x a)) (l : List α)
    (h : Path k₀ o k d) : Path k₀ o k (l.foldl f d) := by
  induction l generalizing d with
  | nil => exact h
  | cons a l ih => exact ih (hf a h)

@[simp] theorem actOn_path (x : DownKind) (t : Telegram) (h : Path k₀ o k d) :
    Path k₀ o k (actOn x t d) := by
  have acked := foldl_path (f := fun x n => acknowledge n x) (fun n => acknowledge_path n)
    (ackedNumbers t.payload) h
  unfold actOn
  (repeat' split) <;> simp [h, acked]

@[simp] theorem restartSilence_path (h : Path k₀ o k d) : Path k₀ o k (restartSilence d) := by
  unfold restartSilence
  split
  · exact h.unseen rfl
  · exact h

@[simp] theorem takeValid_path (x : DownKind) (t : Telegram) (h : Path k₀ o k d) :
    Path k₀ o k (takeValid x t d) := by
  unfold takeValid
  dsimp only
  (repeat' split) <;> simp [h]

@[simp] theorem takeTelegram_path (x : DownKind) (t : Telegram) (h : Path k₀ o k d) :
    Path k₀ o k (takeTelegram x t d) := takeValid_path x t (h.unseen rfl)

@[simp] theorem takeComplete_path (frame : List Byte) (h : Path k₀ o k d) :
    Path k₀ o k (takeComplete frame d) := by
  unfold takeComplete
  split <;> simp [h]

@[simp] theorem takeModemBytes_path (bytes : List Byte) (h : Path k₀ o k d) :
    Path k₀ o k (takeModemBytes bytes d) :=
  foldl_path (f := fun x frame => finish (takeComplete frame x))
    (fun frame p => finish_path (takeComplete_path frame p)) _ (h.unseen rfl)

end Sys2Proof.Machine
end

section
/-! The commands as paths: the requests' answers, the samples and edges, the doors, and where a command
begins: at the part as it is, at an edge counted, or at a reset. -/

namespace Sys2Proof.Machine

variable {k₀ k : Stale} {o d e : Device}

/-! ### Requests -/

theorem judged_path {checks : List (Bool × Reason)} {run : Device → Answered} (h : Path k₀ o k d)
    (hr : Path k₀ o k (run d).dev) : Path k₀ o k (judged checks run d).dev := by
  unfold judged
  split
  · exact h
  · exact hr

@[simp] theorem configureSilence_path (c : CarConfig) (h : Path k₀ o k d) :
    Path k₀ o k (configureSilence c d) := by
  unfold configureSilence
  (repeat' split)
  · exact setCondition_path (by decide) _ (h.unseen rfl)
  · exact h.unseen rfl
  · exact h

/-- The MODE entry's event brings the table and the outputs up to the new record (R12, R93). -/
@[simp] theorem configure_path (c : CarConfig) (h : Path k₀ o k d) : Path k₀ o k (configure c d) := by
  have renewed : Path k₀ o { k with table := true, outputs := true } { d with
      mdc := { d.mdc with config := some c }, prs := { d.prs with valid := false } } :=
    h.renews ⟨rfl, rfl, id, rfl, rfl⟩
  have placed := placeAgain_path ((linkFlagCleared_path renewed).unseen
    (e := let d2 := linkFlagCleared _; { d2 with odu := { d2.odu with
      calib := some ⟨c.circInitial, c.calMin, .longer⟩, window := none } }) rfl)
  exact configureSilence_path c (raiseWith_settles (src := .mode) nofun _ none placed).brought

@[simp] theorem askConfigure_path (c : CarConfig) (h : Path k₀ o k d) :
    Path k₀ o k (askConfigure c d).dev := by
  refine judged_path h ?_
  split
  · exact h
  · exact configure_path c h

@[simp] theorem askOrientation_path (v : Option Dir) (h : Path k₀ o k d) :
    Path k₀ o k (askOrientation v d).dev := judged_path h (placeAgain_path (h.unseen rfl))

@[simp] theorem askEnterService_path (h : Path k₀ o k d) : Path k₀ o k (askEnterService d).dev :=
  judged_path h (changeMode_path _ h)

@[simp] theorem stopWake_path (h : Path k₀ o k d) : Path k₀ o k (stopWake d) := h.unseen rfl

@[simp] theorem askEnterStabled_path (h : Path k₀ o k d) : Path k₀ o k (askEnterStabled d).dev := by
  unfold askEnterStabled
  split
  · exact judged_path h (changeMode_path _ h)
  · exact judged_path h (changeMode_path _ h)
  · exact changeMode_path _ (stopWake_path h)
  · exact h
  · exact h

@[simp] theorem askWake_path (h : Path k₀ o k d) : Path k₀ o k (askWake d).dev := by
  unfold askWake
  split
  · exact changeMode_path _ (h.unseen (e := startWake d) rfl)
  · exact h
  · exact h

@[simp] theorem askEnterPreparation_path (h : Path k₀ o k d) :
    Path k₀ o k (askEnterPreparation d).dev := judged_path h (changeMode_path _ (stopWake_path h))

@[simp] theorem wakeExpires_path (h : Path k₀ o k d) : Path k₀ o k (wakeExpires d) := by
  unfold wakeExpires
  split
  · exact changeMode_path _ (updateRestrictions_path (stopWake_path h))
  · exact h

@[simp] theorem askRestart_path (h : Path k₀ o k d) : Path k₀ o k (askRestart d).dev :=
  judged_path h (h.unseen rfl)

@[simp] theorem askClearResetRecord_path (h : Path k₀ o k d) :
    Path k₀ o k (askClearResetRecord d).dev := h.unseen rfl

@[simp] theorem askLoadLine_path (l : BitVec 24) (v : BitVec 32) (h : Path k₀ o k d) :
    Path k₀ o k (askLoadLine l v d).dev := judged_path h (h.unseen rfl)

@[simp] theorem askLoadSegment_path (i : Byte) (r : SegmentBytes) (h : Path k₀ o k d) :
    Path k₀ o k (askLoadSegment i r d).dev := judged_path h (by split <;> exact h.unseen rfl)

@[simp] theorem askLoadStation_path (i : Byte) (r : StationBytes) (h : Path k₀ o k d) :
    Path k₀ o k (askLoadStation i r d).dev := judged_path h (by split <;> exact h.unseen rfl)

@[simp] theorem askLoadMarker_path (i : Byte) (r : MarkerRec) (h : Path k₀ o k d) :
    Path k₀ o k (askLoadMarker i r d).dev := judged_path h (h.unseen rfl)

@[simp] theorem askClearLoad_path (h : Path k₀ o k d) : Path k₀ o k (askClearLoad d).dev :=
  judged_path h (h.unseen rfl)

@[simp] theorem handOverCommit_path (kept : Bool) (h : Path k₀ o k d) :
    Path k₀ o k (handOverCommit kept d) := by
  cases kept with
  | true => exact linkCommit_path (placeAgain_path h)
  | false =>
    exact linkCommit_path (judgeShadow_path (placeAgain_path (h.unseen (e := forgetPosition d) rfl)))

@[simp] theorem askCommit_path (h : Path k₀ o k d) : Path k₀ o k (askCommit d).dev := by
  refine judged_path h ?_
  split
  · exact h
  · exact handOverCommit_path _ (h.unseen rfl)

@[simp] theorem askSegment_path (i : Nat) (h : Path k₀ o k d) : Path k₀ o k (askSegment i d).dev := by
  unfold askSegment
  (repeat' split) <;> exact h

@[simp] theorem askSetPosition_path (x u : Nat) (h : Path k₀ o k d) :
    Path k₀ o k (askSetPosition x u d).dev :=
  judged_path h (judgeShadow_path (placeAgain_path (h.unseen rfl)))

@[simp] theorem query_path (x : QueryKind) (p : Byte) (f : Device → Contents) (h : Path k₀ o k d) :
    Path k₀ o k (query x p f d).dev := by
  unfold query
  split
  · rw [answerPart_dev]
    exact h.unseen rfl
  · rw [answerPart_dev]
    exact h

/-! ### Demands and brakes -/

/-- A new row of DOOR_HOLD stays at SERVICE or above and FLOW (R84, R87). -/
theorem newRow_reacts {src : Source} {l : Level} {m : LatchMode} (floor : src.floor.rank ≤ l.rank)
    (allowed : src.allows m = true) (t : Bdt) : Reacts src (newRow l m) t := by
  refine ⟨fun _ => rfl, ?_⟩
  rintro rfl holds x mem hs
  have flow : m = .flow := by simpa [Source.allows] using allowed
  subst flow
  obtain ⟨-, -, ⟨active, cond⟩ | ⟨idle, cond⟩⟩ := holds x mem hs
  all_goals refine ⟨⟨rfl, floor, ?_⟩, rfl⟩
  · exact .inl ⟨by simp [newRow, active], cond⟩
  · exact .inr ⟨by simp [newRow, idle], cond⟩

@[simp] theorem askReaction_path (n : Nat) (l : Option Level) (m : Option LatchMode)
    (h : Path k₀ o k d) : Path k₀ o k (askReaction n l m d).dev := by
  unfold askReaction
  split
  · exact h
  · split
    · exact h
    · split
      · exact h
      · split
        · split
          next good => exact bdtEvent_path (newRow_reacts good.1 good.2 _) h
          next => exact h
        · exact h

/-- DOOR_HOLD is never released by an acknowledgement: it is FLOW (R91). -/
theorem releasedEntry_reacts {src : Source} {x : Entry} (found : d.bdt.entry? src = some x)
    (released : ackOutcome d.odu.standstill x = none) : Reacts src releasedEntry d.bdt := by
  refine ⟨releasedEntry_src, ?_⟩
  rintro rfl holds
  have mem := List.mem_of_find?_eq_some found
  have hs : x.src = .doorHold := by simpa using List.find?_some found
  obtain ⟨flow, -, ⟨-, cond⟩ | ⟨idle, cond⟩⟩ := holds x mem hs
  · simp [ackOutcome, cond] at released
  · simp [ackOutcome, cond, idle] at released

@[simp] theorem askAck_path (n : Nat) (h : Path k₀ o k d) : Path k₀ o k (askAck n d).dev := by
  unfold askAck
  split
  · exact h
  · split
    · exact h
    next found =>
      split
      · exact h
      next released =>
        have event := bdtEvent_path (releasedEntry_reacts found released) h
        rw [accept_dev]
        unfold releaseEntry
        dsimp only
        split
        · exact recoverBogies_path event
        · exact event

@[simp] theorem askBrakeRequest_path (l : Option Level) (n : Nat) (h : Path k₀ o k d) :
    Path k₀ o k (askBrakeRequest l n d).dev := by
  unfold askBrakeRequest
  split
  · exact h
  · exact judged_path h (raiseWith_path (src := .linkRequest) nofun _ _ h)

@[simp] theorem feedbackEdge_path (ch : Channel) (b : Bool) (h : Path k₀ o k d) :
    Path k₀ o k (feedbackEdge ch b d) := by
  have written := setChannel_path ch
    (c := { d.bau.channels.ofChannel ch with released := b }) rfl h
  unfold feedbackEdge
  dsimp only
  split
  · exact judgeRelease_path (judgeChannel_path ch written)
  · exact judgeRelease_path written

@[simp] theorem feedbackExpires_path (ch : Channel) (h : Path k₀ o k d) :
    Path k₀ o k (feedbackExpires ch d) := by
  unfold feedbackExpires
  dsimp only
  split
  · exact judgeChannel_path ch (setChannel_path ch rfl h)
  · exact h

@[simp] theorem phaseExpires_path (h : Path k₀ o k d) : Path k₀ o k (phaseExpires d) := by
  unfold phaseExpires
  (repeat' split) <;> simp [h]

@[simp] theorem askStopTest_path (h : Path k₀ o k d) : Path k₀ o k (askStopTest d).dev := by
  unfold askStopTest
  split
  · exact h
  · exact endTest_path _ _ h

@[simp] theorem askStartTest_path (x : Option (Nat × Nat)) (h : Path k₀ o k d) :
    Path k₀ o k (askStartTest x d).dev :=
  judged_path h (rollawayTest_path (changeMode_path _ (judgeRelease_path
    (beginPhase_path _ _ (h.unseen rfl)))))

/-! ### Doors and their bus -/

theorem unsecured_of {r : DoorRec} (locked : r.state ≠ .locked) (isolated : r.state ≠ .isolated) :
    r.secured = false := by simp [DoorRec.secured, locked, isolated]

theorem releaseDoor_keeps (r : DoorRec) : KeepsDoor r (releaseDoor r) := by
  unfold releaseDoor
  split
  · exact .refl r
  · refine ⟨fun _ => lawful_of_no_dwell rfl (Nat.zero_le 5), fun _ => ?_⟩
    by_cases closed : r.state = .closed
    · rw [if_pos closed, unsecured_of (r := r) (by rw [closed]; nofun) (by rw [closed]; nofun)]
      rfl
    · rw [if_neg closed]
      rfl

theorem judgeDoorConditions_settles (h : Path k₀ o { k with doors := true } d) :
    Path k₀ o k (judgeDoorConditions d) := judgeConditions_settles false h

/-- A judgement of the door conditions where the doors may be up to date already. -/
theorem Path.doorsStale (h : Path k₀ o k d) : Path k₀ o { k with doors := true } d :=
  h.weaken ⟨id, id, fun _ => rfl⟩

@[simp] theorem grantRelease_path (x : Side) (h : Path k₀ o k d) :
    Path k₀ o k (grantRelease x d) := by
  have recorded : Path k₀ o k
      { d with dcu := { d.dcu with release := some ⟨x, uptime d⟩ } } := h.unseen rfl
  exact judgeDoorConditions_settles
    (Path.doorsStale (eachDoor_path (fun _ r => (releaseDoor_keeps r).ite) recorded))

@[simp] theorem askReleaseDoors_path (x : Option Side) (h : Path k₀ o k d) :
    Path k₀ o k (askReleaseDoors x d).dev := by
  refine judged_path h ?_
  split
  · rw [accept_dev]
    exact grantRelease_path _ h
  · exact h

@[simp] theorem closeDoors_path (x : SideSel) (h : Path k₀ o k d) : Path k₀ o k (closeDoors x d) := by
  have recorded : Path k₀ o k { d with dcu := { d.dcu with
      release := releaseAfterClose x d.dcu.release } } := h.unseen rfl
  exact eachDoor_path (fun _ r => (closeDoor_keeps r).ite) recorded

@[simp] theorem askCloseDoors_path (x : Option SideSel) (h : Path k₀ o k d) :
    Path k₀ o k (askCloseDoors x d).dev := by
  unfold askCloseDoors
  split
  · exact h
  · exact judged_path h (closeDoors_path _ h)

/-- A dwell that expires leaves a door unsecured, as the REVERSING door was (R134). -/
theorem dwellExpired_keeps {r : DoorRec} (running : r.dwell.isSome) (n : Nat) (spent : Bool) :
    KeepsDoor r (if spent then
      { r with dwell := none, attempts := min maxAttempts n, state := .obstructed }
      else { r with dwell := none, attempts := min maxAttempts n, order := .close }) := by
  cases spent with
  | true =>
    refine ⟨fun _ => lawful_of_no_dwell rfl (Nat.min_le_left _ _), fun l => ?_⟩
    have reversing := l.1 (Option.isSome_iff_ne_none.mp running)
    rw [unsecured_of (r := r) (by rw [reversing]; nofun) (by rw [reversing]; nofun)]
    rfl
  | false => exact ⟨fun _ => lawful_of_no_dwell rfl (Nat.min_le_left _ _), fun _ => rfl⟩

@[simp] theorem dwellExpires_path (n : DoorNo) (h : Path k₀ o k d) :
    Path k₀ o k (dwellExpires n d) := by
  unfold dwellExpires
  dsimp only
  split
  next running => exact setDoor_path n (dwellExpired_keeps running _ _) h
  next => exact h

@[simp] theorem mapLink_path (n : DoorNo) (f : LinkRec → LinkRec) (h : Path k₀ o k d) :
    Path k₀ o k (mapLink n f d) := h.unseen rfl

@[simp] theorem endTrans_path (t : Trans) (h : Path k₀ o k d) : Path k₀ o k (endTrans t d) :=
  h.unseen rfl

@[simp] theorem isolateUnit_path (n : DoorNo) (h : Path k₀ o k d) : Path k₀ o k (isolateUnit n d) := by
  unfold isolateUnit
  dsimp only
  (repeat' split) <;> exact h.unseen rfl

@[simp] theorem isolate_path (n : DoorNo) (h : Path k₀ o k d) : Path k₀ o k (isolate n d) := by
  unfold isolate
  split
  · exact h
  · exact judgeDoorConditions_settles (isolateUnit_path n (setDoor_stale n (fun _ =>
      lawful_of_no_dwell rfl (Nat.zero_le 5)) h))

@[simp] theorem askIsolate_path (n : Nat) (h : Path k₀ o k d) : Path k₀ o k (askIsolate n d).dev := by
  unfold askIsolate
  split
  · exact h
  · exact judged_path h (isolate_path _ h)

@[simp] theorem askDeisolate_path (n : Nat) (h : Path k₀ o k d) :
    Path k₀ o k (askDeisolate n d).dev := by
  unfold askDeisolate
  split
  · exact h
  · exact judged_path h (judgeDoorConditions_settles (setDoor_stale _ (fun _ =>
      lawful_of_no_dwell rfl (Nat.zero_le 5)) h))

@[simp] theorem askClearFlags_path (n : Nat) (h : Path k₀ o k d) :
    Path k₀ o k (askClearFlags n d).dev := by
  unfold askClearFlags
  (repeat' split) <;> exact h.unseen rfl

@[simp] theorem missTrans_path (t : Trans) (b : Bool) (h : Path k₀ o k d) :
    Path k₀ o k (missTrans t b d) := by
  have missed := mapLink_path t.unit (missedLink b) (endTrans_path t h)
  unfold missTrans
  dsimp only
  (repeat' split) <;> simp [h, missed]

@[simp] theorem reportTrans_path (t : Trans) (x : Report) (h : Path k₀ o k d) :
    Path k₀ o k (reportTrans t x d) := by
  unfold reportTrans
  dsimp only
  split
  · exact endTrans_path t h
  · exact takeReport_path _ _ (mapLink_path _ _ (endTrans_path t h))

@[simp] theorem waitTrans_path (t : Trans) (h : Path k₀ o k d) : Path k₀ o k (waitTrans t d) := by
  unfold waitTrans
  (repeat' split)
  · exact endTrans_path t h
  · exact h.unseen rfl
  · exact missTrans_path _ _ h

@[simp] theorem takeAnswer_path (judge : DoorNo → Answer) (h : Path k₀ o k d) :
    Path k₀ o k (takeAnswer judge d) := by
  unfold takeAnswer
  (repeat' split) <;> simp [h]

@[simp] theorem windowCloses_path (h : Path k₀ o k d) : Path k₀ o k (windowCloses d) :=
  takeAnswer_path _ h

@[simp] theorem pollEnd_path (h : Path k₀ o k d) : Path k₀ o k (pollEnd d) := by
  unfold pollEnd
  (repeat' split) <;> exact h.unseen rfl

@[simp] theorem repeatPoll_path (h : Path k₀ o k d) : Path k₀ o k (repeatPoll d) := by
  unfold repeatPoll
  (repeat' split) <;> exact h.unseen rfl

/-! ### Authority requests and the link -/

@[simp] theorem selectDir_path (x : Option Dir) (h : Path k₀ o k d) :
    Path k₀ o k (selectDir x d) := by
  unfold selectDir
  split
  · exact h
  · exact judgeShadow_path (h.unseen rfl)

@[simp] theorem askSelectDirection_path (x : Option (Option Dir)) (h : Path k₀ o k d) :
    Path k₀ o k (askSelectDirection x d).dev := by
  unfold askSelectDirection
  split
  · exact h
  · exact judged_path h (selectDir_path _ h)

@[simp] theorem askAuthority_path (h : Path k₀ o k d) : Path k₀ o k (askAuthority d).dev := by
  have queued := queueEntry_path .authorityRequest (requestPayload d) h
  unfold askAuthority
  dsimp only
  (repeat' split)
  · exact h
  · exact queued
  · exact queued

@[simp] theorem askAddRestriction_path (i a b l : Nat) (x : Option AppliesTo) (h : Path k₀ o k d) :
    Path k₀ o k (askAddRestriction i a b l x d).dev := by
  unfold askAddRestriction
  split
  · exact h
  · exact h
  · exact judged_path h (h.unseen rfl)

@[simp] theorem askLiftRestriction_path (i : Nat) (h : Path k₀ o k d) :
    Path k₀ o k (askLiftRestriction i d).dev := by
  unfold askLiftRestriction
  split
  · exact h
  · exact judged_path h (judgeRoom_path (h.unseen rfl))

@[simp] theorem askAcceptRelaxations_path (h : Path k₀ o k d) :
    Path k₀ o k (askAcceptRelaxations d).dev := updateRestrictions_path h

@[simp] theorem askStatus_path (h : Path k₀ o k d) : Path k₀ o k (askStatus d).dev := h.unseen rfl

@[simp] theorem linkSilenceExpires_path (h : Path k₀ o k d) :
    Path k₀ o k (linkSilenceExpires d) := by
  unfold linkSilenceExpires
  split
  · exact setCondition_path (by decide) _ (h.unseen rfl)
  · exact h

@[simp] theorem hearFrame_path (h : Path k₀ o k d) : Path k₀ o k (hearFrame d) :=
  setCondition_path (src := .linkSilent) nofun _ (h.unseen rfl)

@[simp] theorem validFrame_path (h : Path k₀ o k d) : Path k₀ o k (validFrame d) :=
  hearFrame_path (h.unseen (e := dropFrame d) rfl)

/-! ### Edges, markers and samples -/

@[simp] theorem sourceTooth_path (w : Bogie) (x : Sense) (h : Path k₀ o k d) :
    Path k₀ o k (sourceTooth w x d) := by
  unfold sourceTooth
  dsimp only
  (repeat' split) <;> simp [h]

/-- The device with an edge counted, before anything acts on it (R36, R55). -/
def Device.withEdge (d : Device) : Device :=
  { d with odu := { d.odu with quiet := 0, edgeSince := true, standstill := false } }

@[simp] theorem countEdge_path (h : Path k₀ o k d.withEdge) : Path k₀ o k (countEdge d) := by
  unfold countEdge
  dsimp only
  split
  · exact standstillCleared_path h
  · exact h

@[simp] theorem rackTooth_path (w : Bogie) (x : Sense) (h : Path k₀ o k d.withEdge) :
    Path k₀ o k (rackTooth w x d) := by
  have meshed := rackToothMesh_path w (countEdge_path h)
  unfold rackTooth
  dsimp only
  split
  · exact sourceTooth_path w x meshed
  · exact meshed

@[simp] theorem pinionTooth_path (w : Bogie) (h : Path k₀ o k d.withEdge) :
    Path k₀ o k (pinionTooth w d) := pinionToothMesh_path w (countEdge_path h)

@[simp] theorem wheelPulse_path (x : Sense) (h : Path k₀ o k d.withEdge) :
    Path k₀ o k (wheelPulse x d) := by
  have counted := calPulse_path x (countEdge_path h)
  unfold wheelPulse
  dsimp only
  split
  next c y _ _ =>
    have pulsed := fun n i => missingRack_path n .b (missingRack_path n .a
      (counted.unseen (e := { calPulse x (countEdge d) with odu := {
        (calPulse x (countEdge d)).odu with remainder := i } }) rfl))
    split
    · exact takeDistance_path _ _ _ (pulsed _ _)
    · exact pulsed _ _
  · exact counted

@[simp] theorem readMarker_path (i : BitVec 16) (h : Path k₀ o k d) :
    Path k₀ o k (readMarker i d) := by
  have set : ∀ (c : CarConfig) (f : Dir) (m : MarkerRec) (a b : Bool),
      Path k₀ o k (setByMarker c f m a b d) := fun _ _ _ _ _ =>
    judgeShadow_path (placeAgain_path (h.unseen rfl))
  unfold readMarker
  (repeat' split) <;> simp [h, set]

@[simp] theorem sampleHandle_path (n : Nat) (f : Bool) (h : Path k₀ o k d) :
    Path k₀ o k (sampleHandle n f d) := by
  have raised := raiseWith_path (src := .driverHandle) nofun (handleDemand d.mdc.config n f).1
    (handleDemand d.mdc.config n f).2 (h.unseen
      (e := { d with bdt := { d.bdt with handleFaulty := handleIsFaulty n f } }) rfl)
  unfold sampleHandle
  dsimp only
  split
  · exact notify_path _ raised
  · exact raised

@[simp] theorem judgeAlarm_path (h : Path k₀ o k d) : Path k₀ o k (judgeAlarm d) :=
  bdtEvent_path (.of_ne nofun (judgeAlarmEntry_src _)) h

@[simp] theorem speedSample_path (n : Nat) (f : Bool) (h : Path k₀ o k d) :
    Path k₀ o k (speedSample n f d) :=
  judgeShadow_path (judgeRelease_path (refreshBrakes_path (judgeAlarm_path (sampleHandle_path n f
    (evaluate_path (rackEntryTest_path (countQuiet_path (h.unseen (e := sampleSpeed d) rfl))))))))

/-! ### The supply watch and start-up -/

/-- The watch may change outside CUTOFF (R120). -/
theorem watched_path (r : Nat) (first : Bool) {w : Watch} (hw : w ≠ .cutoff)
    (up : d.bau.watch ≠ .cutoff) (h : Path k₀ o k d) : Path k₀ o k
      { d with bau := { d.bau with reading := r, firstSample := first, watch := w } } := by
  have cut : (w == .cutoff) = d.cut := by
    rw [Device.cut, beq_eq_false_iff_ne.mpr hw, beq_eq_false_iff_ne.mpr up]
  exact h.unseen (congrArg
    (fun c => ((c, d.figures, d.shown, d.called, d.dcu.doors), d.waiting)) cut)

@[simp] theorem judgeFirstSample_path (r : Nat) (up : d.bau.watch ≠ .cutoff) (h : Path k₀ o k d) :
    Path k₀ o k (judgeFirstSample r d) := by
  by_cases low : r < 220
  · rw [judgeFirstSample_low low]
    exact notify_path _ (setCondition_path (by decide) _ (watched_path r false (by decide) up h))
  · rw [judgeFirstSample_normal (Nat.le_of_not_lt low)]
    exact watched_path r false (by decide) up h

theorem watchSample_path {r : Nat} (up : d.bau.watch ≠ .cutoff) (high : 165 ≤ r)
    (h : Path k₀ o k d) : Path k₀ o k (watchSample r d) := by
  unfold watchSample
  rw [if_neg (c := r < Config.cutoffBelow) (Nat.not_lt.mpr high)]
  refine finish_path ?_
  dsimp only
  (repeat' split)
  · exact judgeFirstSample_path r up h
  · exact notify_path _ (setCondition_path (by decide) _
      (watched_path r d.bau.firstSample (by decide) up h))
  · exact notify_path _ (setCondition_path (by decide) _
      (watched_path r d.bau.firstSample (by decide) up h))
  · exact h.unseen rfl

/-- Start-up judges DOOR_HOLD last (R140, log 41). -/
theorem startConditions_settles (h : Path k₀ o { k with doors := true } d) :
    Path k₀ o k (startConditions d) :=
  (doorHold_settles (setCondition_path (src := .plunger) nofun _
    (setCondition_path (src := .position) nofun _ h))).weaken ⟨id, id, nofun⟩

theorem withCauses_path (h : Path k₀ o k d) : Path k₀ o k d.withCauses := h.unseen rfl

@[simp] theorem restartReports_path (m : Mode) (h : Path k₀ o k d) :
    Path k₀ o k (restartReports m d) := by
  have told := withCauses_path h
  unfold restartReports
  dsimp only
  (repeat' split)
  · exact callPosition_path (modeNotice_path told)
  · exact told
  · exact modeNotice_path told

/-- The doors alone are out of date: every door is UNKNOWN and DOOR_HOLD not yet judged (R140). -/
def Stale.unjudged : Stale := { Stale.fresh with doors := true }

theorem warmRestart_path (d : Device) : Path .unjudged (restartBegun d) .fresh (warmRestart d) := by
  have begun : Path .unjudged (restartBegun d) .unjudged (restartBegun d) := .start
  have reported := restartReports_path d.mdc.mode (startConditions_settles (k := .fresh) begun)
  rw [warmRestart_eq]
  dsimp only
  split
  · exact linkTo_path _ _ reported
  · exact reported

theorem coldStart_path (r : Nat) (d : Device) :
    Path .unjudged (coldBlocks d) .fresh (coldStart r d) := by
  have up : (startedNotice (coldBlocks d)).bau.watch ≠ .cutoff := by
    rw [(startedNotice_queues _).bau]
    nofun
  rw [coldStart_eq]
  exact startConditions_settles (k := .fresh)
    (judgeFirstSample_path r up (notify_path _ .start))

/-! ### Where a command begins, and what it leads to -/

/-- Where a command's path begins: at the part as it is, with an edge counted, or at a reset with what it
leaves out of date. -/
inductive Begins (d : Device) : Stale → Device → Prop
  | here : Begins d .fresh d
  | edge : Begins d .fresh d.withEdge
  | power : Begins d .fresh (blankDevice d.now d.pins)
  | off (r : Nat) : Begins d .fresh (cutOff r d)
  | cold : Begins d .unjudged (coldBlocks d)
  | warm : Begins d .unjudged (restartBegun d)

/-- A path that replies may interrupt, each finding room in the reply list (R185). -/
inductive Run (k₀ : Stale) (o : Device) : Device → Prop
  | path {d : Device} : Path k₀ o .fresh d → Run k₀ o d
  | more {d e : Device} : Run k₀ o d → Path .fresh d .fresh e → Run k₀ o e
  | reply {d : Device} (t : Byte) (r : Option Reason) (x : ReplyData) :
      Run k₀ o d → d.clp.replies.length < replyRoom → Run k₀ o (reply t r x d)

/-- What a command leads to. -/
def LeadsTo (d e : Device) : Prop := ∃ k₀ o, Begins d k₀ o ∧ Run k₀ o e

theorem LeadsTo.of_path (h : Path .fresh d .fresh e) : LeadsTo d e := ⟨_, _, .here, .path h⟩

theorem LeadsTo.of_edge (h : Path .fresh d.withEdge .fresh e) : LeadsTo d e :=
  ⟨_, _, .edge, .path h⟩

theorem LeadsTo.refl (d : Device) : LeadsTo d d := .of_path .start

theorem LeadsTo.finished (h : LeadsTo d e) : LeadsTo d (finish e) := by
  obtain ⟨k₀, o, begins, run⟩ := h
  exact ⟨k₀, o, begins, run.more (finish_path .start)⟩

/-- A request answered: the block's path, and the reply in the room that the path left (R185). -/
theorem answerFrame_run (q : Req) {body : Device → Answered}
    (hb : ∀ d, Path .fresh d .fresh (body d).dev) (h : Run k₀ o d) :
    Run k₀ o (answerFrame q body d) := by
  unfold answerFrame
  split
  · exact h
  next open_ =>
    have room : d.clp.replies.length < replyRoom := Nat.lt_of_not_le fun full => open_ (.inr full)
    split
    · exact (h.more (hb d)).reply _ _ _ ((hb d).rooms.replies.trans_lt room)
    · exact h.reply _ _ _ room

theorem request_leads (q : Req) {body : Device → Answered}
    (hb : ∀ d, Path .fresh d .fresh (body d).dev) (d : Device) : LeadsTo d (request q body d) :=
  ⟨_, _, .here, answerFrame_run q hb (.path (validFrame_path .start))⟩

theorem requestBody_path (kind : Nat) (p : List Byte) (d : Device) :
    Path .fresh d .fresh (requestBody kind p d).dev := by
  have begun : Path .fresh d .fresh d := .start
  unfold requestBody
  split
  case h_8 | h_16 | h_43 => exact begun
  all_goals simp [begun]

theorem takeLinkBytes_leads (bytes : List Byte) (d : Device) : LeadsTo d (takeLinkBytes bytes d) := by
  have frames : ∀ (l : List (List Byte)) (x : Device), Run .fresh d x →
      Run .fresh d (l.foldl (fun x f => finish (takeFrame f x)) x) := by
    intro l
    induction l with
    | nil => exact fun _ h => h
    | cons f l ih =>
      exact fun x h => ih _ ((answerFrame_run _ (requestBody_path _ _)
        (h.more (hearFrame_path .start))).more (finish_path .start))
  exact ⟨_, _, .here, frames _ _ (.path (Path.unseen .start rfl))⟩

theorem frameEnd_leads (d : Device) : LeadsTo d (frameEnd d) := by
  unfold frameEnd
  (repeat' split)
  · exact ⟨_, _, .warm, .path (warmRestart_path d)⟩
  · exact .of_path (Path.unseen .start rfl)
  · exact .of_path (Path.unseen .start rfl)

theorem restartIfAccepted_leads (d : Device) : LeadsTo d (restartIfAccepted d) := by
  unfold restartIfAccepted
  (repeat' split)
  · exact ⟨_, _, .warm, .path (warmRestart_path d)⟩
  · exact .refl d
  · exact .refl d

theorem meshWindowTooth_leads (w : Bogie) (x : Sense) (d : Device) :
    LeadsTo d (meshWindowTooth w x d) := by
  unfold meshWindowTooth
  dsimp only
  split
  · exact .of_edge (rackTooth_path w x .start)
  · exact .refl d

theorem calibrationTooth_leads (d : Device) : LeadsTo d (calibrationTooth d) := by
  unfold calibrationTooth
  (repeat' split)
  · exact .of_edge (rackTooth_path _ _ .start)
  · exact .refl d
  · exact .refl d

theorem takeBatterySample_leads (r : Nat) (d : Device) : LeadsTo d (takeBatterySample r d) := by
  by_cases off : d.bau.watch = .cutoff
  · by_cases low : r < 180
    · rw [takeBatterySample_cutoff_low off low]
      exact .of_path (Path.unseen .start rfl)
    · rw [takeBatterySample_cutoff_ends off (Nat.le_of_not_lt low)]
      exact ⟨_, _, .cold, .path (finish_path (coldStart_path r d))⟩
  · by_cases low : r < 165
    · rw [takeBatterySample_cutOff off low]
      exact ⟨_, _, .off r, .path .start⟩
    · rw [takeBatterySample, if_neg off]
      exact .of_path (watchSample_path off (Nat.le_of_not_lt low) .start)

theorem leads_of_up {f : Device → Device} {s t : State} (h : LeadsTo s.dev (f s.dev))
    (ht : become s (whenUp f s.dev) = .next t) : LeadsTo s.dev t.dev := by
  obtain rfl := Host.Outcome.next.inj ht
  unfold whenUp
  split
  · exact .refl _
  · exact h.finished

theorem path_of_up {f : Device → Device} {s t : State} (h : Path .fresh s.dev .fresh (f s.dev))
    (ht : become s (whenUp f s.dev) = .next t) : LeadsTo s.dev t.dev := leads_of_up (.of_path h) ht

/-- A command that first moves the level of a line. -/
theorem leads_of_line {f : Device → Device} {s t : State} {e : Device}
    (line : Path .fresh s.dev .fresh e) (h : LeadsTo s.dev (f e))
    (ht : become s (whenUp f e) = .next t) : LeadsTo s.dev t.dev := by
  obtain rfl := Host.Outcome.next.inj ht
  unfold whenUp
  split
  · exact .of_path line
  · exact h.finished

theorem request_of_up {q : Req} {body : Device → Answered} {s t : State}
    (hb : ∀ d, Path .fresh d .fresh (body d).dev)
    (ht : become s (whenUp (request q body) s.dev) = .next t) : LeadsTo s.dev t.dev :=
  leads_of_up (request_leads q hb _) ht

end Sys2Proof.Machine
end

section
/-! The command table as paths, and the laws of this family along them: O6, O10, O13 and O15. -/

namespace Sys2Proof.Machine

variable {k₀ k : Stale} {o d e : Device}

/-! ### The command table -/

theorem withContact_path (ch : Channel) (b : Bool) (d : Device) :
    Path .fresh d .fresh (withContact ch b d) := by
  cases ch <;> exact Path.unseen .start rfl

/-- Every command is a path from the part as it is, from an edge counted, or from a reset. -/
theorem exec_leads (c : Instr) (s t : State) (ht : exec c s = .next t) : LeadsTo s.dev t.dev := by
  cases c with
  | powerOn =>
    obtain rfl := Host.Outcome.next.inj ht
    exact ⟨_, _, .power, .path .start⟩
  | batterySample r =>
    obtain rfl := Host.Outcome.next.inj ht
    exact takeBatterySample_leads r _
  | warmRestart => exact leads_of_up (restartIfAccepted_leads _) ht
  | frameSent => exact leads_of_up (frameEnd_leads _) ht
  | frameDiscarded b => exact leads_of_up (takeLinkBytes_leads b _) ht
  | rackToothEdge w x => exact leads_of_up (.of_edge (rackTooth_path w x .start)) ht
  | pinionToothEdge w x => exact leads_of_up (.of_edge (pinionTooth_path w .start)) ht
  | wheelPulse x => exact leads_of_up (.of_edge (wheelPulse_path x .start)) ht
  | meshWindowEnd w x => exact leads_of_up (meshWindowTooth_leads w x _) ht
  | calibrationWindowEnd => exact leads_of_up (calibrationTooth_leads _) ht
  | plungerEdge b =>
    have line : Path .fresh s.dev .fresh (withPlunger b s.dev) := Path.unseen .start rfl
    exact leads_of_line line (.of_path (setCondition_path (by decide) _ line)) ht
  | feedbackEdge ch b =>
    have line := withContact_path ch b s.dev
    exact leads_of_line line (.of_path (feedbackEdge_path ch b line)) ht
  | electricBrakeAvailableEdge b =>
    have line : Path .fresh s.dev .fresh (withEdbLine b s.dev) := Path.unseen .start rfl
    exact leads_of_line line (.of_path (refreshBrakes_path line)) ht
  | getRadio q p b =>
    have line : Path .fresh s.dev .fresh (withCarrier b s.dev) := Path.unseen .start rfl
    have answered := answerFrame_run q
      (fun _ => query_path .radio p (fun d => .radio (radioView d)) .start)
      (.path (validFrame_path line))
    exact leads_of_line line ⟨_, _, .here, answered⟩ ht
  | wakeTimerExpiry => exact path_of_up (wakeExpires_path .start) ht
  | markerRead i => exact path_of_up (readMarker_path i .start) ht
  | speedSample n f => exact path_of_up (speedSample_path n f .start) ht
  | standstillSet => exact path_of_up (twentiethQuiet_path .start) ht
  | feedbackTimerExpiry ch => exact path_of_up (feedbackExpires_path ch .start) ht
  | phaseTimerExpiry => exact path_of_up (phaseExpires_path .start) ht
  | reopenDwellExpiry n => exact path_of_up (dwellExpires_path n .start) ht
  | pollSent => exact path_of_up (pollEnd_path .start) ht
  | repeatPoll => exact path_of_up (repeatPoll_path .start) ht
  | doorAnswerReport | doorAnswerWait | badAnswer =>
    exact path_of_up (takeAnswer_path _ .start) ht
  | answerWindowClose => exact path_of_up (windowCloses_path .start) ht
  | logonTimerExpiry => exact path_of_up (logonExpires_path .start) ht
  | silenceTimerExpiry => exact path_of_up (silenceExpires_path .start) ht
  | reportIntervalExpiry => exact path_of_up (reportExpires_path .start) ht
  | ackTimeoutExpiry n => exact path_of_up (ackTimeout_path n .start) ht
  | telegramSent => exact path_of_up (telegramEnd_path .start) ht
  | downlinkDiscarded b => exact path_of_up (takeModemBytes_path b .start) ht
  | telegramAssemblyTimeout => exact path_of_up (f := dropTelegram) (Path.unseen .start rfl) ht
  | logonAccept | unknownTelegramKind | uplinkAck | poll | authorityGrant | authorityShorten
  | authorityWithdraw | restrictionSet | restrictionLift | stopOrder | stopRelease =>
    exact path_of_up (takeTelegram_path _ _ .start) ht
  | authorityExpiry => exact path_of_up (authorityExpires_path .start) ht
  | frameAssemblyTimeout => exact path_of_up (f := dropFrame) (Path.unseen .start rfl) ht
  | linkSilenceTimerExpiry => exact path_of_up (linkSilenceExpires_path .start) ht
  | unknownKind | getResetRecord | getProfileInfo => exact request_of_up (fun _ => .start) ht
  | _ => exact request_of_up (fun _ => by simp [Path.start]) ht

/-- A step is a tick, which the laws do not see, or a command. -/
theorem step_leads {s t : State} (ht : step s = .next t) : LeadsTo s.dev t.dev := by
  unfold step at ht
  split at ht
  · obtain rfl := Host.Outcome.next.inj ht
    exact .of_path (Path.unseen .start rfl)
  · next c rest _ => exact exec_leads c { s with pending := rest } t ht

/-- A law that paths and replies keep, and every beginning meets, every step keeps. -/
theorem LeadsTo.keeps {P : Stale → Device → Prop}
    (begins : ∀ {d o k₀}, Begins d k₀ o → P .fresh d → P k₀ o)
    (path : ∀ {k₀ o k d}, Path k₀ o k d → P k₀ o → P k d)
    (reply : ∀ {d} t r x, d.clp.replies.length < replyRoom → P .fresh d → P .fresh (reply t r x d))
    (leads : LeadsTo d e) (h : P .fresh d) : P .fresh e := by
  obtain ⟨k₀, o, begun, run⟩ := leads
  induction run with
  | path p => exact path p (begins begun h)
  | more _ p ih => exact path p ih
  | reply t r x _ room ih => exact reply t r x room ih

/-! ### The table (R92 to R94) -/

theorem serviceDecel_eq_zero (config : Option CarConfig) {l : List Entry}
    (h : ∀ x ∈ l, x.level ≠ .service) : serviceDecel config l = 0 := by
  unfold serviceDecel
  induction l with
  | nil => rfl
  | cons x l ih =>
    have zero : countedDecel config x = 0 := if_neg (h x List.mem_cons_self)
    rw [List.foldl_cons, zero]
    exact ih fun y hy => h y (List.mem_cons_of_mem x hy)

/-- The table at a reset: MODE at EMERGENCY governs under the hold, and no other entry is in force
(R104). -/
theorem resetTable_law {l : List Entry} (h : l.map (·.src) = allSources) (k : Stale)
    (table : d.bdt = resetTable l) : TableBut k d := by
  obtain ⟨⟨m, hm⟩, all⟩ := resetTable_modeHolds h
  obtain ⟨mem, src⟩ := Bdt.mem_entriesOf.mp hm
  have others : ∀ x ∈ (resetTable l).entries, x.src ≠ .mode → x.level = .none := fun x hx hs => by
    rw [Entry.level, (resetTable_other l x hx hs).1]
  have modes : ∀ x ∈ (resetTable l).entries, x.src = .mode → x.level = .emergency := fun x hx hs =>
    (all x (Bdt.mem_entriesOf.mpr ⟨hx, hs⟩)).2.2
  have applied : appliedLevel (resetTable l).entries = .emergency :=
    appliedLevel_emergency mem (modes m mem src)
  have any : anyEmergency (resetTable l).entries = true :=
    List.any_eq_true.mpr ⟨m, mem, by rw [modes m mem src]; rfl⟩
  have governing : governingSource (resetTable l).entries = some .mode := by
    rw [governingSource, applied, if_neg nofun]
    cases found : (resetTable l).entries.find? (fun e => e.level == .emergency) with
    | none =>
      exact absurd (List.find?_eq_none.mp found m mem) (by rw [modes m mem src]; decide)
    | some x =>
      have at_ : x.level = .emergency := by simpa using List.find?_some found
      refine congrArg some (not_not.mp fun hs => ?_)
      rw [others x (List.mem_of_find?_eq_some found) hs] at at_
      cases at_
  have none_at_service : ∀ x ∈ (resetTable l).entries, x.level ≠ .service := fun x hx => by
    by_cases hs : x.src = .mode
    · rw [modes x hx hs]
      nofun
    · rw [others x hx hs]
      nofun
  refine ⟨?_, ?_, fun _ _ _ => ?_, fun _ => ?_⟩
  · rw [table]
    exact resetTable_ordered h
  · rw [table]
    exact ⟨applied.symm, governing.symm, fun _ => rfl⟩
  · rw [table]
    exact any
  · rw [table, serviceDecel_eq_zero _ none_at_service]
    rfl

theorem restartBegun_bdt (d : Device) : (restartBegun d).bdt = resetTable d.bdt.entries :=
  (restartBegun_queues d).bdt

theorem Begins.table (b : Begins d k₀ o) (h : TableBut .fresh d) : TableBut k₀ o := by
  cases b with
  | here => exact h
  | edge => exact ⟨h.ordered, h.lawful, nofun, h.svcDecel⟩
  | power => exact resetTable_law rfl _ rfl
  | off r => exact h.of_figures rfl id
  | cold => exact resetTable_law rfl _ rfl
  | warm => exact resetTable_law h.ordered _ (restartBegun_bdt d)

theorem step_tableLaw {s t : State} (ht : step s = .next t) (h : TableLaw s.dev) : TableLaw t.dev :=
  (tableLaw_iff _).mpr ((step_leads ht).keeps Begins.table Path.tableBut
    (fun _ _ _ _ k => k.of_figures rfl id) ((tableLaw_iff _).mp h))

/-- Where a command begins the hold stands if it stood. -/
theorem Begins.hold (b : Begins d k₀ o) (h : d.bdt.hold = true) : o.bdt.hold = true := by
  cases b with
  | here => exact h
  | edge => exact h
  | power => rfl
  | off r => exact h
  | cold => rfl
  | warm => rw [restartBegun_bdt]; rfl

/-- A step clears the hold only at standstill (R94). -/
theorem step_hold {s t : State} (ht : step s = .next t) (held : s.dev.bdt.hold = true)
    (clear : t.dev.bdt.hold = false) : t.dev.odu.standstill = true := by
  obtain ⟨k₀, o, begins, run⟩ := step_leads ht
  have kept : ∀ {e}, Run k₀ o e → e.bdt.hold = false → e.odu.standstill = true := by
    intro e run
    induction run with
    | path p => exact p.hold.2 (begins.hold held)
    | @more x y _ p ih =>
      intro off
      cases hold : x.bdt.hold with
      | false => exact p.hold.1 (ih hold)
      | true => exact p.hold.2 hold off
    | reply _ _ _ _ _ ih => exact ih
  exact kept run clear

/-- Settles O6: every event of the table leaves its law, a reset leaves MODE alone at EMERGENCY, and the
hold falls only in an event at standstill. -/
theorem tableLawKept : Obligations.TableLawKept := by
  refine ⟨fun s t h ht => ⟨step_tableLaw ht h, fun held clear => ⟨step_hold ht held clear, ?_⟩⟩, ?_⟩
  · obtain ⟨-, ⟨-, -, hold⟩, -⟩ := step_tableLaw ht h
    refine Bool.eq_false_iff.mpr fun any => ?_
    rw [hold any] at clear
    cases clear
  · intro d r ordered t ht
    have restrained : Restrained t := by
      rcases List.mem_pair.mp ht with rfl | rfl
      · exact (warmRestart_restarted ordered).restrained
      · exact (coldStart_started r d).restrained
    obtain ⟨⟨⟨e, he⟩, all⟩, applied, hold, -⟩ := restrained
    obtain ⟨mem, src⟩ := Bdt.mem_entriesOf.mp he
    obtain ⟨active, cond, level⟩ := all e he
    exact ⟨hold, applied, e, mem, src, active, cond, level⟩

/-! ### The rooms (R159, R160, R185, R189) -/

theorem Begins.rooms (b : Begins d k₀ o) (h : RoomLaw d) : RoomLaw o := by
  have blank : RoomLaw (blankDevice d.now d.pins) :=
    ⟨Nat.zero_le _, Nat.zero_le _, Nat.zero_le _, Nat.zero_le _⟩
  cases b with
  | here => exact h
  | edge => exact h
  | power => exact blank
  | off r => exact h
  | cold => exact blank
  | warm => exact (notify_rooms _ _).roomLaw blank

theorem step_roomLaw {s t : State} (ht : step s = .next t) (h : RoomLaw s.dev) : RoomLaw t.dev := by
  refine (step_leads ht).keeps (P := fun _ => RoomLaw) Begins.rooms (fun p => p.rooms.roomLaw) ?_ h
  intro d _ _ _ room law
  obtain ⟨notices, -, dupWindow, ackList⟩ := law
  refine ⟨notices, ?_, dupWindow, ackList⟩
  rw [reply, List.length_append]
  exact room

/-- Settles O10: along a path no queue outgrows its room, a reply is taken only into room, and an event
queues its notices behind those that wait. -/
theorem roomLawKept : Obligations.RoomLawKept := by
  refine ⟨fun s t h ht => step_roomLaw ht h, fun n d => ⟨fun room => ?_, fun full => ?_⟩,
    fun f d room => ?_⟩
  · rw [notify, if_pos (c := _ < noticeRoom) room]
    exact ⟨rfl, rfl⟩
  · rw [notify, if_neg (c := _ < noticeRoom) (Nat.not_lt.mpr full)]
    exact ⟨rfl, rfl⟩
  · obtain ⟨fulls, queued⟩ := tableEvent_enqueues f d
    refine ⟨fulls, ?_⟩
    have whole := queued room
    rw [changedEntries, List.map_map, ← List.append_assoc, ← List.append_assoc] at whole
    exact whole

/-! ### The outputs (R106, R107, R115) -/

theorem Begins.outputs (b : Begins d k₀ o) (h : OutputsLaw d) : OutputsLaw o := by
  cases b with
  | here => exact h
  | edge => exact h.of_shown rfl rfl rfl
  | power => exact fun up => absurd rfl up
  | off r => exact fun up => absurd rfl up
  | cold => exact fun _ => ⟨rfl, rfl, rfl, rfl, rfl, rfl, rfl⟩
  | warm =>
    have same := sight_eq (d := setOutputs (restartMesh (restartBlocks d))) (e := restartBegun d)
      (restartBegun_queues d).bdt (restartBegun_queues d).bau (notify_keeps _ _).mdc
      (notify_keeps _ _).odu (notify_keeps _ _).dcu
    simp only [Device.sight, Prod.mk.injEq] at same
    obtain ⟨cut, -, shown, called, -⟩ := same
    exact (setOutputs_outputsLaw _).of_shown cut shown called

theorem step_outputsLaw {s t : State} (ht : step s = .next t) (h : OutputsLaw s.dev) :
    OutputsLaw t.dev :=
  (step_leads ht).keeps (P := fun k d => k.outputs = false → OutputsLaw d)
    (fun b k _ => b.outputs (k rfl)) Path.outputsLaw (fun _ _ _ _ k up => k up) (fun _ => h) rfl

/-- Where the law holds and both channels have one pattern, both show it with its drives (R107). -/
theorem OutputsLaw.bothShow (h : OutputsLaw d) (up : d.bau.watch ≠ .cutoff) {c : Commanded}
    (same : ∀ ch, pattern d ch = c) :
    BothShow d c (valvesFor (serviceDuty d.mdc.config d.bdt.svcDecel) c).1
      (valvesFor (serviceDuty d.mdc.config d.bdt.svcDecel) c).2 := by
  obtain ⟨a, av, b, bv, -⟩ := h up
  rw [same] at a av b bv
  obtain ⟨release, full⟩ := Prod.mk.inj (av.trans (Prod.mk.eta).symm)
  obtain ⟨release', full'⟩ := Prod.mk.inj (bv.trans (Prod.mk.eta).symm)
  exact ⟨a, release, full, b, release', full'⟩

theorem pattern_of_idle (run : d.bau.run = none) (ch : Channel) : pattern d ch = tablePattern d := by
  rw [pattern, run]

/-- The rows of R106 and R109 as the table pattern has them. -/
theorem tablePattern_spring
    (h : d.mdc.mode = .stabled ∨ d.bdt.hold = true ∨ d.bdt.applied = .emergency) :
    tablePattern d = .springApplied := by
  unfold tablePattern
  split
  · rfl
  · split
    · rfl
    · rcases h with stabled | hold | emergency
      · contradiction
      · contradiction
      · rw [emergency]

theorem phasePattern_eq (p : Phase) (guard : Bool) :
    phasePattern p guard .a = (if p = .bOnly ∧ guard = false then .released else .fullApplied)
      ∧ phasePattern p guard .b
        = (if p = .aOnly ∧ guard = false then .released else .fullApplied) := by
  cases guard <;> exact ⟨by simp [phasePattern], by simp [phasePattern]⟩

theorem emergencyRow_iff (d : Device) :
    emergencyRow d = true ↔ d.bdt.hold = true ∨ d.bdt.applied = .emergency := by
  simp [emergencyRow]

/-- Settles O13: the outputs are set behind whatever they follow, and the law's figures are the rows of
R106 and R107. -/
theorem outputsLawKept : Obligations.OutputsLawKept := by
  refine ⟨fun s t h ht => step_outputsLaw ht h, fun d h up => ?_⟩
  obtain ⟨a, -, b, -, ebLine, demand, traction⟩ := h up
  refine ⟨fun run => ⟨fun spring => ?_, fun mode hold => ?_⟩, fun r run => ?_, fun emergency => ?_,
    fun hold => ?_, ?_⟩
  · exact h.bothShow up fun ch => (pattern_of_idle run ch).trans (tablePattern_spring spring)
  · have shows : ∀ {c}, tablePattern d = c → _ := fun same =>
      h.bothShow up fun ch => (pattern_of_idle run ch).trans same
    have pulsed : d.bdt.applied = .service → d.bau.blend = true → _ := fun service blend =>
      shows (c := .serviceApplied) (by simp [tablePattern, mode, hold, service, blend])
    refine ⟨fun mild => shows (c := .released) ?_, fun service blend => shows (c := .released) ?_,
      fun c service blend config => ?_, fun service blend config => ?_,
      fun full => shows (c := .fullApplied) ?_⟩
    · rcases mild with same | same | same <;> simp [tablePattern, mode, hold, same]
    · simp [tablePattern, mode, hold, service, blend]
    · have row := pulsed service blend
      rwa [config] at row
    · have row := pulsed service blend
      rwa [config] at row
    · simp [tablePattern, mode, hold, full]
  · have phases := phasePattern_eq r.phase r.guard
    rw [pattern, run] at a b
    exact ⟨a.trans phases.1, b.trans phases.2⟩
  · have row := (emergencyRow_iff d).mpr emergency
    exact ⟨ebLine.trans row, by rw [demand, edbDemandOf, if_pos row]; rfl⟩
  · have free : d.bdt.applied ≠ .emergency → emergencyRow d = false := fun mild =>
      Bool.eq_false_iff.mpr fun row => ((emergencyRow_iff d).mp row).elim
        (fun held => Bool.false_ne_true (hold.symm.trans held)) mild
    have lines : ∀ {l}, d.bdt.applied = l → l ≠ .emergency → LinesShow d false _ := fun same mild =>
      ⟨ebLine.trans (free (same ▸ mild)),
       demand.trans ((if_neg (Bool.eq_false_iff.mp (free (same ▸ mild)))).trans (by rw [same]))⟩
    refine ⟨?_, fun service => lines service nofun, fun full => lines full nofun⟩
    rintro (none | notify | cut)
    · exact lines none nofun
    · exact lines notify nofun
    · exact lines cut nofun
  · rw [traction]
    cases mode : d.mdc.mode <;> simp [tractionOf, mode, Mode.inService]

/-! ### The held door (R129) -/

theorem resetEntry_holdsDoor {x : Entry} (h : x.holdsDoor) (hs : x.src = .doorHold) :
    (resetEntry x).holdsDoor := by
  obtain ⟨flow, floor, -⟩ := h
  simp [resetEntry, hs, Entry.holdsDoor, flow, floor]

theorem resetTable_holdsDoor {l : List Entry} (h : ∀ x ∈ l, x.src = .doorHold → x.holdsDoor) :
    (resetTable l).holdsDoor := by
  intro e he hs
  obtain ⟨x, hx, rfl⟩ := List.mem_map.mp he
  rw [resetEntry_src] at hs
  exact resetEntry_holdsDoor (h x hx hs) hs

theorem defaultTable_holdsDoor : (resetTable (allSources.map defaultEntry)).holdsDoor := by
  refine resetTable_holdsDoor fun x hx hs => ?_
  obtain ⟨src, -, rfl⟩ := List.mem_map.mp hx
  obtain rfl : src = .doorHold := hs
  exact ⟨rfl, by decide, .inr ⟨rfl, rfl⟩⟩

theorem blankDcu_lawful : lawfulDoors blankDcu.doors := by
  intro n
  cases n <;> exact lawful_of_no_dwell rfl (Nat.zero_le 5)

theorem Begins.doors (b : Begins d k₀ o) (h : DoorsBut .fresh d) : DoorsBut k₀ o := by
  cases b with
  | here => exact h
  | edge => exact ⟨h.ordered, h.entry, h.doors, h.present⟩
  | power => exact ⟨rfl, defaultTable_holdsDoor, blankDcu_lawful, nofun⟩
  | off r => exact ⟨h.ordered, h.entry, h.doors, nofun⟩
  | cold => exact ⟨rfl, defaultTable_holdsDoor, blankDcu_lawful, nofun⟩
  | warm =>
    have kept := restartBegun_keeps d
    refine ⟨?_, ?_, ?_, nofun⟩
    · rw [restartBegun_bdt]
      exact resetTable_ordered h.ordered
    · rw [restartBegun_bdt]
      exact resetTable_holdsDoor h.entry
    · rw [kept.dcu]
      exact blankDcu_lawful

/-- Settles O15: whatever writes a door record leaves the door secured or not as it was, or is followed by
the judgement of DOOR_HOLD. -/
theorem doorHoldLawKept : Obligations.DoorHoldLawKept := fun _ _ h ht =>
  (doorHoldLaw_iff _).mpr ((step_leads ht).keeps Begins.doors Path.doorsBut
    (fun _ _ _ _ k => k.of_figures rfl rfl k.doors fun hk => ⟨hk, rfl⟩) ((doorHoldLaw_iff _).mp h))

end Sys2Proof.Machine
end

section
/-! The statements of the Brake Demand Table about single commands: O48, O49 and O50. -/

namespace Sys2Proof.Machine

variable {d : Device}

/-! ### The brake handle (R97) -/

theorem apart_driverHandle : Source.driverHandle.apartFromTests := by simp [Source.apartFromTests]

/-- A carried NONE clears a carried-level entry (R89). -/
theorem raiseWith_none {src : Source} (apart : src.apartFromTests) (carries : src.carriesLevel = true)
    (x : Option Nat) (h : ∀ e ∈ d.bdt.entriesOf src, e.isFlow) :
    ∀ e ∈ (raiseWith src .none x d).bdt.entriesOf src,
      e.state = .idle ∧ e.level = .none ∧ e.cond = false := by
  intro e he
  rw [raiseWith, if_pos ⟨carries, rfl⟩] at he
  obtain ⟨y, hy, rfl⟩ := bdtEvent_own apart he
  have idle := clearEntry_idle (h y hy)
  exact ⟨idle, level_of_idle idle, clearEntry_cond y⟩

theorem raiseEntry_decel {e : Entry} (r : Raise) (carries : e.src.carriesLevel = true) (h : e.isFlow) :
    (raiseEntry r e).decel = r.decel := by
  have other : e.src ≠ .passengerAlarm := fun hs => by
    rw [hs] at carries
    cases carries
  obtain ⟨-, idle | ⟨active, -⟩⟩ := h
  · simp [raiseEntry, idle, other]
  · simp [raiseEntry, active, carries]

/-- Any other carried level puts the entry in force with the carried deceleration (R89). -/
theorem raiseWith_carried {src : Source} (apart : src.apartFromTests)
    (carries : src.carriesLevel = true) {l : Level} (hl : l ≠ .none) (x : Option Nat)
    (h : ∀ e ∈ d.bdt.entriesOf src, e.isFlow) :
    ∀ e ∈ (raiseWith src l x d).bdt.entriesOf src, e.state = .active ∧ e.level = l ∧ e.decel = x := by
  intro e he
  rw [raiseWith, if_neg fun k => hl k.2] at he
  obtain ⟨y, hy, rfl⟩ := bdtEvent_own apart he
  have carriesY : y.src.carriesLevel = true := (Bdt.mem_entriesOf.mp hy).2 ▸ carries
  obtain ⟨active, level⟩ := raiseEntry_carried (raiseOf l x d) (h y hy) carriesY
  exact ⟨active, level, raiseEntry_decel _ carriesY (h y hy)⟩

/-- The table with the handle's fault as a sample finds it. -/
def Device.handleRead (faulty : Bool) (d : Device) : Device :=
  { d with bdt := { d.bdt with handleFaulty := faulty } }

theorem sampleHandle_bdt (h : Nat) (f : Bool) (d : Device) : (sampleHandle h f d).bdt
    = (raiseWith .driverHandle (handleDemand d.mdc.config h f).1 (handleDemand d.mdc.config h f).2
        (d.handleRead (handleIsFaulty h f))).bdt := by
  unfold sampleHandle
  dsimp only
  split
  · exact notify_bdt _ _
  · rfl

/-! What a reading asks for, range by range. -/

theorem handleDemand_released (c : Option CarConfig) {h : Nat} (low : h < 50) :
    handleDemand c h false = (.none, none) := by
  unfold handleDemand handleIsFaulty
  rw [if_neg (by simp; omega), if_pos low]

theorem handleDemand_service (c : CarConfig) {h : Nat} (above : 50 ≤ h) (below : h < 950) :
    handleDemand (some c) h false = (.service, some ((h - 50) * c.aSb / 900)) := by
  unfold handleDemand handleIsFaulty
  rw [if_neg (by simp; omega), if_neg (by omega)]

theorem handleDemand_full (c : Option CarConfig) {h : Nat} {f : Bool} (full : f = true ∨ 950 ≤ h) :
    handleDemand c h f = (.full, none) := by
  unfold handleDemand handleIsFaulty
  rw [if_pos (by rcases full with rfl | high <;> simp [*])]

theorem handleDemand_unconfigured {h : Nat} (above : 50 ≤ h) :
    handleDemand none h false = (.full, none) := by
  unfold handleDemand
  split
  · rfl
  · rw [if_neg (by omega)]

/-- Settles O50: the sample is a raise of DRIVER_HANDLE with the demand of its reading. -/
theorem handleDemandAtSample : Obligations.HandleDemand := by
  intro h f d flow e he hs
  have own : e ∈ (sampleHandle h f d).bdt.entriesOf .driverHandle := Bdt.mem_entriesOf.mpr ⟨he, hs⟩
  have before : ∀ x ∈ (d.handleRead (handleIsFaulty h f)).bdt.entriesOf .driverHandle, x.isFlow :=
    fun x hx => by
      obtain ⟨mem, src⟩ := Bdt.mem_entriesOf.mp hx
      obtain ⟨mode, state⟩ := flow x mem src
      exact ⟨mode, state.imp_left And.left⟩
  rw [sampleHandle_bdt] at own
  have carried : ∀ l x, l ≠ Level.none → handleDemand d.mdc.config h f = (l, x) →
      e.state = .active ∧ e.level = l ∧ e.decel = x := fun l x hl want => by
    rw [want] at own
    exact raiseWith_carried apart_driverHandle rfl hl x before e own
  have full : handleDemand d.mdc.config h f = (.full, none) → e.state = .active ∧ e.level = .full :=
    fun want => (carried .full none (by decide) want).imp_right And.left
  refine ⟨fun sound low => ?_, fun c sound above below config => ?_, fun sound above config => ?_,
    fun high => full (handleDemand_full _ high)⟩
  · subst sound
    rw [handleDemand_released _ low] at own
    exact raiseWith_none apart_driverHandle rfl _ before e own
  · subst sound
    obtain ⟨active, level, decel⟩ := carried .service _ (by decide)
      (config ▸ handleDemand_service c above below)
    exact ⟨active, level, by rw [Entry.shownDecel, if_pos level, decel]⟩
  · subst sound
    exact full (config ▸ handleDemand_unconfigured above)

/-! ### The plunger (R96) -/

theorem apart_plunger : Source.plunger.apartFromTests := by simp [Source.apartFromTests]

/-- A raise of a configured-level entry that is not DEFERRED puts it in force at its row's level (R89). -/
theorem raiseEntry_configured {e : Entry} (r : Raise) (configured : e.src.carriesLevel = false)
    (alarm : e.src ≠ .passengerAlarm) (ready : e.state ≠ .deferred) :
    (raiseEntry r e).level = e.cfgLevel := by
  cases hs : e.state with
  | idle | held | active => simp [raiseEntry, Entry.level, hs, alarm, configured]
  | deferred => contradiction

/-- In an ordered table the plunger's entry stands first, so at EMERGENCY it governs (R92). -/
theorem governing_plunger {t : Bdt} (ordered : t.ordered)
    (h : ∀ e ∈ t.entriesOf .plunger, e.level = .emergency)
    (applied : appliedLevel t.entries = .emergency) :
    governingSource t.entries = some .plunger := by
  unfold Bdt.ordered at ordered
  rw [governingSource, applied, if_neg (by decide)]
  cases entries : t.entries with
  | nil => simp [entries, allSources] at ordered
  | cons x rest =>
    rw [entries] at ordered
    have first : x.src = .plunger := (List.cons.inj ordered).1
    have level := h x (Bdt.mem_entriesOf.mpr ⟨by simp [entries], first⟩)
    rw [List.find?_cons_of_pos (by simp [level]), Option.map_some, first]

theorem endTest_run (r : TestResult) (c : EndCause) (d : Device) : (endTest r c d).bau.run = none := by
  have written :
      (writeTestEnd r c (movementAfter d.bau.test d.bau.run) (endPhase d)).bau.run = none := rfl
  unfold endTest
  dsimp only
  split
  · exact ((((reportTestFailure_works c _).trans (rollawayAfterTest_works _)).trans
      (notify_queues _ _).works).trial.idle written).1
  · exact (((rollawayAfterTest_works _).trans (notify_queues _ _).works).trial.idle written).1

/-- No test runs on under an entry at EMERGENCY (R117). -/
theorem abortIfEmergency_run (h : anyEmergency d.bdt.entries = true) :
    (abortIfEmergency d).bau.run = none := by
  unfold abortIfEmergency
  split
  · exact endTest_run _ _ d
  · next idle => simpa [h] using idle

/-- What an event leaves that puts an entry of the plunger at EMERGENCY. -/
structure PlungerRules (d : Device) : Prop where
  ordered : d.bdt.ordered
  lawful : d.bdt.lawful
  level : ∀ e ∈ d.bdt.entriesOf .plunger, e.level = .emergency

theorem PlungerRules.emergency (h : PlungerRules d) : anyEmergency d.bdt.entries = true := by
  obtain ⟨e, he, hs⟩ := h.ordered.mem .plunger
  exact List.any_eq_true.mpr ⟨e, he, by rw [h.level e (Bdt.mem_entriesOf.mpr ⟨he, hs⟩)]; rfl⟩

/-- EMERGENCY applied with PLUNGER governing under the hold (R92, R94). -/
theorem PlungerRules.table (h : PlungerRules d) : d.bdt.applied = .emergency
    ∧ d.bdt.governing = some .plunger ∧ d.bdt.hold = true := by
  obtain ⟨applied, governing, hold⟩ := h.lawful
  obtain ⟨e, he, hs⟩ := h.ordered.mem .plunger
  have stands := appliedLevel_emergency he (h.level e (Bdt.mem_entriesOf.mpr ⟨he, hs⟩))
  exact ⟨applied.trans stands, governing.trans (governing_plunger h.ordered h.level stands),
    hold h.emergency⟩

/-- The plunger's raise and what follows it, up to the abort of a test. -/
theorem plunger_rules (r : Raise) (ordered : d.bdt.ordered)
    (ready : ∀ e ∈ d.bdt.entries, e.src = .plunger → e.cfgLevel = .emergency ∧ e.state ≠ .deferred) :
    PlungerRules (tableEvent (onEntry .plunger (raiseEntry r)) d) := by
  refine ⟨tableEvent_ordered .plunger _ (raiseEntry_src r) ordered, tableEvent_lawful _ d,
    fun e he => ?_⟩
  obtain ⟨mem, hs⟩ := Bdt.mem_entriesOf.mp he
  rw [tableEvent_entries] at mem
  obtain ⟨x, hx, rfl⟩ := List.mem_map.mp mem
  rw [ite_src (raiseEntry_src r)] at hs
  obtain ⟨level, state⟩ := ready x hx hs
  rw [if_pos hs, raiseEntry_configured r (by rw [hs]; rfl) (by rw [hs]; decide) state, level]

/-- The lines of an emergency, whatever else stands (R106, R107, R110). -/
theorem OutputsLaw.emergency (h : OutputsLaw d) (up : d.bau.watch ≠ .cutoff)
    (applied : d.bdt.applied = .emergency) (run : d.bau.run = none) :
    d.bau.channels.a.commanded = .springApplied ∧ d.bau.channels.b.commanded = .springApplied
      ∧ d.bau.channels.a.releaseValve = false ∧ d.bau.channels.b.releaseValve = false
      ∧ d.bau.ebLine = true ∧ d.bau.traction = false := by
  obtain ⟨a, release, -, b, release', -⟩ := h.bothShow up (c := .springApplied) fun ch =>
    (pattern_of_idle run ch).trans (tablePattern_spring (.inr (.inr applied)))
  obtain ⟨-, -, -, -, ebLine, -, traction⟩ := h up
  refine ⟨a, b, release, release', ebLine.trans ((emergencyRow_iff d).mpr (.inr applied)), ?_⟩
  rw [traction, tractionOf, applied]
  rfl

/-- The plunger going in, up to the end of a test. -/
theorem setPlunger_rules (out : d.bdt.present .plunger = false) (ordered : d.bdt.ordered)
    (ready : ∀ e ∈ d.bdt.entries, e.src = .plunger → e.cfgLevel = .emergency ∧ e.state ≠ .deferred) :
    PlungerRules (setCondition .plunger true d) ∧ OutputsLaw (setCondition .plunger true d)
      ∧ (setCondition .plunger true d).bau.run = none := by
  have raised := plunger_rules (raiseOf .none none d) ordered ready
  have path := abortIfEmergency_path (k₀ := .fresh) (.start (o := tableEvent
    (onEntry .plunger (raiseEntry (raiseOf .none none d))) d))
  have after := path.tableBut (tableEvent_tableBut .fresh .plunger _ (raiseEntry_src _) ordered)
  rw [setCondition, if_pos ⟨rfl, by simp [out]⟩, raise, raiseWith, if_neg (by decide)]
  refine ⟨⟨after.ordered, after.lawful, fun e he => raised.level e ?_⟩,
    path.outputsLaw (fun _ => tableEvent_outputsLaw _ _) rfl, abortIfEmergency_run raised.emergency⟩
  rwa [bdtEvent, abortIfEmergency_other apart_plunger] at he

/-- PLUNGER_EDGE outside CUTOFF: the condition follows the line (R96). -/
theorem exec_plungerEdge {s : State} (up : s.dev.bau.watch ≠ .cutoff) (active : Bool) :
    exec (.plungerEdge active) s
      = .next (s.put (finish (setCondition .plunger active (withPlunger active s.dev)))) :=
  congrArg (Host.Outcome.next ∘ s.put) (whenUp_up (d := withPlunger active s.dev) up _)

/-- Settles O49: the raise puts the plunger's entry first at EMERGENCY, the abort it calls for leaves that
entry alone, and the outputs follow the table. -/
theorem plungerStopsTheCar : Obligations.PlungerStopsTheCar := by
  intro s up ordered out ready
  let d := withPlunger true s.dev
  obtain ⟨rules, outputs, run⟩ := setPlunger_rules (d := d) out ordered ready
  have watch : (setCondition .plunger true d).bau.watch ≠ .cutoff := by
    rw [(setCondition_works .plunger true d).trial.watch]
    exact up
  obtain ⟨-, -, -, -, bdt, bau, -⟩ := finish_blocks (setCondition .plunger true d)
  obtain ⟨applied, governing, hold⟩ := rules.table
  refine ⟨s.put (finish (setCondition .plunger true d)), exec_plungerEdge up true, ?_⟩
  rw [State.put_dev, bdt, bau]
  exact ⟨applied, governing, hold, run, outputs.emergency watch applied run⟩

/-! ### The host's commands (R87, R91, R98) -/

theorem askReaction_accepted {n : Nat} {src : Source} {l : Level} {m : LatchMode}
    (mode : d.mdc.mode = .preparation) (number : sourceOfNat n = some src)
    (configured : src.carriesLevel = false) (floor : src.floor.rank ≤ l.rank)
    (allows : src.allows m = true) :
    askReaction n (some l) (some m) d = accept (bdtEvent (onEntry src (newRow l m)) d) := by
  rw [askReaction, if_neg (fun h => h mode), number]
  dsimp only
  rw [if_neg (by rw [configured]; nofun), if_pos ⟨floor, allows⟩]

theorem askBrakeRequest_accepted {l : Level} {x : Nat}
    (h : firstFailure (brakeRequestChecks l x d) = none) : askBrakeRequest (some l) x d
      = accept (raiseWith .linkRequest l (if l = .service then some x else none) d) := by
  rw [askBrakeRequest, judged_accepted _ d h]

theorem askBrakeRequest_refused {l : Level} {x : Nat} {r : Reason}
    (h : firstFailure (brakeRequestChecks l x d) = some r) :
    askBrakeRequest (some l) x d = refuse r d := by
  rw [askBrakeRequest, judged_refused _ d h]

theorem inRange_iff {lo hi n : Nat} : inRange lo hi n = true ↔ lo ≤ n ∧ n ≤ hi := by
  simp [inRange]

/-- SERVICE asked for under a configuration stands or falls with its range (R98). -/
theorem brakeRequestChecks_service {c : CarConfig} (config : d.mdc.config = some c) (x : Nat) :
    firstFailure (brakeRequestChecks .service x d)
      = if 1 ≤ x ∧ x ≤ c.aSb then none else some .range := by
  by_cases h : 1 ≤ x ∧ x ≤ c.aSb
  · simp [brakeRequestChecks, requestable, firstFailure, config, inRange_iff.mpr h, h]
  · have out : inRange 1 c.aSb x = false := Bool.eq_false_iff.mpr fun k => h (inRange_iff.mp k)
    simp [brakeRequestChecks, requestable, firstFailure, config, out, h]

theorem sourceOfNat_none {n : Nat} (h : n = 0 ∨ 21 < n) : sourceOfNat n = none := by
  refine List.find?_eq_none.mpr fun src _ => ?_
  have bound : 1 ≤ src.number ∧ src.number ≤ 21 := by cases src <;> decide
  simp only [beq_iff_eq]
  omega

theorem askAck_refused {n : Nat} {src : Source} {e : Entry} {r : Reason}
    (number : sourceOfNat n = some src) (entry : d.bdt.entry? src = some e)
    (outcome : ackOutcome d.odu.standstill e = some r) :
    askAck n d = refuse r d := by
  simp [askAck, number, entry, outcome]

theorem askAck_released {n : Nat} {src : Source} {e : Entry} (number : sourceOfNat n = some src)
    (entry : d.bdt.entry? src = some e) (outcome : ackOutcome d.odu.standstill e = none) :
    askAck n d = accept (releaseEntry src d) := by
  simp [askAck, number, entry, outcome]

/-! The rows of ACK_DEMAND's table. -/

theorem ackOutcome_present {still : Bool} {e : Entry} (cond : e.cond = true) :
    ackOutcome still e = some .conditionPresent := if_pos cond

theorem ackOutcome_deferred {still : Bool} {e : Entry} (cond : e.cond = false)
    (state : e.state = .deferred) : ackOutcome still e = none := by
  simp [ackOutcome, cond, state]

theorem ackOutcome_notHeld {still : Bool} {e : Entry} (cond : e.cond = false)
    (free : e.state = .idle ∨ (e.mode = .flow ∧ e.state ≠ .deferred)) :
    ackOutcome still e = some .notHeld := by
  rcases free with idle | ⟨flow, state⟩
  · simp [ackOutcome, cond, idle]
  · cases hs : e.state with
    | idle | active | held => simp [ackOutcome, cond, hs, flow]
    | deferred => contradiction

theorem ackOutcome_moving {e : Entry} (cond : e.cond = false) (state : e.state = .held)
    (mode : e.mode = .latchStandstill) : ackOutcome false e = some .notStandstill := by
  simp [ackOutcome, cond, state, mode]

theorem ackOutcome_held {still : Bool} {e : Entry} (cond : e.cond = false) (state : e.state = .held)
    (mode : e.mode = .latch ∨ (e.mode = .latchStandstill ∧ still = true)) :
    ackOutcome still e = none := by
  rcases mode with latch | ⟨latch, still⟩
  · simp [ackOutcome, cond, state, latch]
  · simp [ackOutcome, cond, state, latch, still]

/-- Settles O48: each command's block answers with its effect, and a taken request carries the answer. -/
theorem demandCommandsComplete : Obligations.DemandCommandsComplete := by
  intro q s
  refine ⟨fun up a => exec_plungerEdge up a, fun h => ⟨?_, ?_, ?_, ?_, ?_, ?_, ?_, ?_⟩⟩
  · exact fun n src l m mode number configured floor allows =>
      request_accepted h (askReaction_accepted mode number configured floor allows)
  · rintro l x (rfl | rfl | rfl) <;> exact request_accepted h (askBrakeRequest_accepted rfl)
  · exact fun c x config low high => request_accepted h (askBrakeRequest_accepted
      ((brakeRequestChecks_service config x).trans (if_pos ⟨low, high⟩)))
  · rintro l x (rfl | rfl | rfl)
    · exact request_answered h rfl
    · exact request_answered h (askBrakeRequest_refused rfl)
    · exact request_answered h (askBrakeRequest_refused rfl)
  · exact fun x config => request_answered h (askBrakeRequest_refused
      (by simp [brakeRequestChecks, requestable, firstFailure, config]))
  · exact fun c x config out => request_answered h (askBrakeRequest_refused
      ((brakeRequestChecks_service config x).trans (if_neg (by omega))))
  · exact fun n out => request_answered h (by rw [askAck, sourceOfNat_none out]; rfl)
  · intro n src e number entry
    have refused : ∀ r, ackOutcome (validFrame s.dev).odu.standstill e = some r → _ := fun r outcome =>
      request_answered h (askAck_refused number entry outcome)
    have released : ackOutcome (validFrame s.dev).odu.standstill e = none → _ := fun outcome =>
      request_accepted h (askAck_released number entry outcome)
    exact ⟨fun cond => refused _ (ackOutcome_present cond),
      fun cond state => released (ackOutcome_deferred cond state),
      fun cond free => refused _ (ackOutcome_notHeld cond free),
      fun cond state mode moving => refused _ (by rw [moving, ackOutcome_moving cond state mode]),
      fun cond state mode => released (ackOutcome_held cond state mode)⟩

end Sys2Proof.Machine
end

section
/-! The law of traction along a path: O7. -/

namespace Sys2Proof.Machine

variable {k₀ k : Stale} {o d e : Device}

/-! ### Permission and its conditions (R110) -/

theorem tractionOf_iff (d : Device) : tractionOf d = true ↔
    d.bdt.applied = .none ∧ d.mdc.mode.inService = true ∧ d.bdt.hold = false := by
  simp [tractionOf, and_assoc]

/-- Permission never stands without its conditions; outside CUTOFF they also give it. -/
theorem tractionLaw_iff (d : Device) : TractionLaw d ↔
    (d.bau.traction = true → tractionOf d = true)
      ∧ (d.cut = false → tractionOf d = true → d.bau.traction = true) := by
  simp only [TractionLaw, tractionOf_iff, Device.cut, beq_eq_false_iff_ne, and_imp]

/-- Permission as R110 gives it is lawful in CUTOFF and outside. -/
theorem tractionLaw_of_drawn (h : d.bau.traction = tractionOf d) : TractionLaw d :=
  (tractionLaw_iff d).mpr ⟨h.symm.trans, fun _ => h.trans⟩

theorem setOutputs_tractionLaw (d : Device) : TractionLaw (setOutputs d) := tractionLaw_of_drawn rfl

/-- The law speaks of CUTOFF and of the outputs as they are and as they are to be. -/
theorem TractionLaw.of_shown (h : TractionLaw d) (cut : e.cut = d.cut) (shown : e.shown = d.shown)
    (called : e.called = d.called) : TractionLaw e := by
  have traction : e.bau.traction = d.bau.traction := congrArg (·.2.2.2.2) shown
  have conditions : tractionOf e = tractionOf d := congrArg (·.2.2.2.2) called
  rw [tractionLaw_iff] at h ⊢
  rwa [cut, traction, conditions]

/-! ### Along a path -/

/-- What holds once the outputs are set, and survives while neither they nor what they follow change, holds
along a path wherever the outputs are up to date. -/
theorem Path.keepsOutputs {P : Device → Prop} (drawn : ∀ x, P (setOutputs x))
    (kept : ∀ {x y : Device}, P x → y.cut = x.cut → y.shown = x.shown → y.called = x.called → P y)
    (p : Path k₀ o k d) (h : k₀.outputs = false → P o) : k.outputs = false → P d := by
  induction p with
  | start => exact h
  | weaken _ le ih => exact ih ∘ Stale.old le.outputs
  | stays _ q ih => exact fun up => kept (ih up) q.cut q.shown q.called
  | event src f _ _ _ => exact fun _ => drawn _
  | outputs _ _ => exact fun _ => drawn _
  | turns _ _ _ => exact nofun
  | renews _ _ _ => exact nofun
  | redoors _ q ih => exact fun up => kept (ih up) q.cut q.shown q.called
  | holds f _ _ _ => exact fun _ => drawn _
  | agrees _ _ ih => exact ih

/-- The restart sets the outputs and queues STARTED behind them (R14). -/
theorem restartBegun_tractionLaw (d : Device) : TractionLaw (restartBegun d) := by
  refine tractionLaw_of_drawn ?_
  rw [tractionOf, (restartBegun_queues d).bau, (restartBegun_queues d).bdt, (restartBegun_keeps d).mdc]
  rfl

theorem Begins.tractionLaw (b : Begins d k₀ o) (h : TractionLaw d) : TractionLaw o := by
  cases b with
  | here => exact h
  | edge => exact h
  | power => exact ⟨nofun, fun up => absurd rfl up⟩
  | off r => exact ⟨nofun, fun up => absurd rfl up⟩
  | cold => exact tractionLaw_of_drawn rfl
  | warm => exact restartBegun_tractionLaw d

/-- Settles O7: a command begins under the law, and whatever changes a condition of it sets the outputs
anew. -/
theorem tractionLawKept : Obligations.TractionLawKept := fun _ _ h ht =>
  (step_leads ht).keeps (P := fun k d => k.outputs = false → TractionLaw d)
    (fun b k _ => b.tractionLaw (k rfl)) (Path.keepsOutputs setOutputs_tractionLaw .of_shown)
    (fun _ _ _ _ k => k) (fun _ => h) rfl

end Sys2Proof.Machine
end

section
/-! The commands of the Brake Actuation Unit: O51. -/

namespace Sys2Proof.Machine

variable {d : Device}

/-! ### The lines (R105, R108) -/

theorem withContact_watch (ch : Channel) (released : Bool) (d : Device) :
    (withContact ch released d).bau.watch = d.bau.watch := by
  cases ch with
  | a => rfl
  | b => rfl

/-- A command that first moves the level of a line, outside CUTOFF. -/
theorem become_line {s : State} {e : Device} (up : s.dev.bau.watch ≠ .cutoff)
    (line : e.bau.watch = s.dev.bau.watch) (f : Device → Device) :
    become s (whenUp f e) = .next (s.put (finish (f e))) :=
  congrArg (Host.Outcome.next ∘ s.put) (whenUp_up (by rwa [line]) f)

/-! ### The timers (R111, R115) -/

theorem feedbackExpires_running {ch : Channel} (h : (d.bau.channels.ofChannel ch).timer ≠ none) :
    feedbackExpires ch d = judgeChannel ch { d with bau := { d.bau with
      channels := d.bau.channels.setChannel ch
        { d.bau.channels.ofChannel ch with timer := none } } } :=
  if_pos (Option.isSome_iff_ne_none.mpr h)

theorem feedbackExpires_stopped {ch : Channel} (h : (d.bau.channels.ofChannel ch).timer = none) :
    feedbackExpires ch d = d := if_neg (by simp [h])

theorem phaseExpires_running {r : TestRun} (run : d.bau.run = some r) (h : r.timer ≠ none) :
    phaseExpires d = nextPhase r d := by
  rw [phaseExpires, run]
  exact if_pos (Option.isSome_iff_ne_none.mpr h)

theorem phaseExpires_stopped (h : ∀ r, d.bau.run = some r → r.timer = none) : phaseExpires d = d := by
  unfold phaseExpires
  split
  next r run => exact if_neg (by simp [h r run])
  next => rfl

/-! ### The requests of the brake test (R114, R118) -/

theorem askStartTest_accepted {h : Option (Nat × Nat)} (checks : firstFailure (testChecks h d) = none) :
    askStartTest h d = accept (startTest h d) := judged_accepted _ d checks

theorem askStartTest_refused {h : Option (Nat × Nat)} {r : Reason}
    (checks : firstFailure (testChecks h d) = some r) : askStartTest h d = refuse r d :=
  judged_refused _ d checks

theorem askStopTest_running {r : TestRun} (run : d.bau.run = some r) :
    askStopTest d = accept (endTest (stoppedResult d.bau.test r) .stopped d) := by
  rw [askStopTest, run]

theorem askStopTest_idle (run : d.bau.run = none) : askStopTest d = refuse .notAllowed d := by
  rw [askStopTest, run]

/-! ### A phase that begins (R115) -/

/-- At standstill a phase begins without movement or guard, is written into the record, and commands each
channel by its pattern. -/
theorem beginPhase_standstill (p : Phase) (n : Nat) (standstill : d.odu.standstill = true) :
    ∃ r, (beginPhase p n d).bau.run = some r
      ∧ (r.phase = p ∧ r.cycle = n ∧ r.movement = 0 ∧ r.guard = false)
      ∧ (beginPhase p n d).bau.test
          = { d.bau.test with phaseReached := some p, cycleReached := some n }
      ∧ (beginPhase p n d).bau.channels.a.commanded = phasePattern p false .a
      ∧ (beginPhase p n d).bau.channels.b.commanded = phasePattern p false .b := by
  rw [beginPhase, if_pos standstill]
  exact ⟨_, rfl, ⟨rfl, rfl, rfl, rfl⟩, rfl, rfl, rfl⟩

/-- Settles O51: each event runs its operation, each request is answered by its checks or by the running
test, and a phase that begins draws its pattern without the guard. -/
theorem brakeCommandsComplete : Obligations.BrakeCommandsComplete := by
  refine ⟨fun s up => ⟨fun ch r => ?_, fun ch running => ?_, fun ch stopped => ?_, fun a => ?_,
    fun r run running => ?_, fun stopped => ?_, fun q taken => ⟨fun h checks => ?_,
    fun h r checks => ?_, fun r run => ?_, fun run => ?_⟩⟩, fun p n d standstill => ?_⟩
  · exact become_line up (withContact_watch ch r s.dev) (feedbackEdge ch r)
  · exact become_up up (feedbackExpires_running running)
  · exact become_up up (feedbackExpires_stopped stopped)
  · exact become_line (e := withEdbLine a s.dev) up rfl refreshBrakes
  · exact become_up up (phaseExpires_running run running)
  · exact become_up up (phaseExpires_stopped stopped)
  · exact request_accepted taken (askStartTest_accepted checks)
  · exact request_answered taken (askStartTest_refused checks)
  · exact request_accepted taken (askStopTest_running run)
  · exact request_answered taken (askStopTest_idle run)
  · obtain ⟨r, run, ⟨phase, cycle, movement, guard⟩, test, a, b⟩ :=
      beginPhase_standstill p n standstill
    have patterns := phasePattern_eq p false
    simp only [and_true] at patterns
    exact ⟨r, run, phase, cycle, movement, guard, by rw [test], by rw [test], by rw [test],
      a.trans patterns.1, b.trans patterns.2⟩

end Sys2Proof.Machine
end

section
/-! The door requests and the reopen dwell: O52; and the law of release, which a dwell that runs for a door
out of use breaks: O14. -/

namespace Sys2Proof.Machine

variable {d : Device}

/-! ### Requests (R130, R134, R136, R137, R149) -/

theorem askReleaseDoors_accepted {x : Side} (checks : firstFailure (releaseChecks (some x) d) = none) :
    askReleaseDoors (some x) d = accept (grantRelease x d) := judged_accepted _ d checks

theorem askReleaseDoors_refused {x : Option Side} {r : Reason}
    (checks : firstFailure (releaseChecks x d) = some r) : askReleaseDoors x d = refuse r d :=
  judged_refused _ d checks

theorem askCloseDoors_accepted {x : SideSel} (sides : x = .both ∨ d.mdc.config ≠ none) :
    askCloseDoors (some x) d = accept (closeDoors x d) := by
  have configured : (x == .both || d.mdc.config.isSome) = true := by
    simpa [Option.isSome_iff_ne_none] using sides
  rw [askCloseDoors]
  exact judged_accepted _ d (by simp [firstFailure, configured])

theorem askIsolate_accepted {k : Nat} {n : DoorNo} (door : doorOfNat k = some n)
    (standstill : d.odu.standstill = true) : askIsolate k d = accept (isolate n d) := by
  rw [askIsolate, door]
  exact judged_accepted _ d (by rw [standstill]; rfl)

theorem askDeisolate_accepted {k : Nat} {n : DoorNo} (door : doorOfNat k = some n)
    (standstill : d.odu.standstill = true) (isolated : (d.dcu.doors.get n).state = .isolated) :
    askDeisolate k d = accept (judgeDoorConditions (setDoor n blankDoor d)) := by
  rw [askDeisolate, door]
  exact judged_accepted _ d (by rw [standstill, isolated]; rfl)

theorem doorOfNat_pos {k : Nat} {n : DoorNo} (door : doorOfNat k = some n) : k ≠ 0 := by
  rintro rfl
  cases door

theorem doorOfNat_out : ∀ {k : Nat}, 4 < k → doorOfNat k = none
  | _ + 5, _ => rfl

theorem askClearFlags_door {k : Nat} {n : DoorNo} (door : doorOfNat k = some n) :
    askClearFlags k d = accept (mapLink n clearFlags d) := by
  rw [askClearFlags, if_neg (doorOfNat_pos door), door]

theorem askClearFlags_out {k : Nat} (out : 4 < k) : askClearFlags k d = refuse .range d := by
  rw [askClearFlags, if_neg (by omega), doorOfNat_out out]

/-! ### The reopen dwell (R134) -/

theorem dwellExpires_stopped {n : DoorNo} (stopped : (d.dcu.doors.get n).dwell = none) :
    dwellExpires n d = d := if_neg (by simp [stopped])

/-- The last attempt, which is every attempt without a configuration: the door stays OBSTRUCTED. -/
theorem dwellExpires_last {n : DoorNo} (runs : (d.dcu.doors.get n).dwell ≠ none)
    (last : ∀ c, d.mdc.config = some c →
      c.doorAttempts ≤ min 5 ((d.dcu.doors.get n).attempts + 1)) :
    dwellExpires n d = setDoor n { d.dcu.doors.get n with
      dwell := none, attempts := min 5 ((d.dcu.doors.get n).attempts + 1), state := .obstructed } d := by
  unfold dwellExpires
  dsimp only
  rw [if_pos (Option.isSome_iff_ne_none.mpr runs)]
  cases config : d.mdc.config with
  | none => rfl
  | some c => exact congrArg (setDoor n · d) (if_pos (decide_eq_true (last c config)))

/-- An attempt before the last: the door closes again. -/
theorem dwellExpires_again {n : DoorNo} {c : CarConfig} (runs : (d.dcu.doors.get n).dwell ≠ none)
    (config : d.mdc.config = some c)
    (more : min 5 ((d.dcu.doors.get n).attempts + 1) < c.doorAttempts) :
    dwellExpires n d = setDoor n { d.dcu.doors.get n with
      dwell := none, attempts := min 5 ((d.dcu.doors.get n).attempts + 1), order := .close } d := by
  unfold dwellExpires
  dsimp only
  rw [if_pos (Option.isSome_iff_ne_none.mpr runs), config]
  exact congrArg (setDoor n · d) (if_neg (by rw [decide_eq_true_eq]; exact Nat.not_le.mpr more))

/-- Settles O52: each request is answered by its checks, and an expiry by the attempts that the
configuration leaves. -/
theorem doorCommandsComplete : Obligations.DoorCommandsComplete := by
  refine fun q s => ⟨fun taken => ⟨fun x checks => ?_, fun x r checks => ?_, fun x sides => ?_,
    fun k n door standstill => ?_, fun k n door standstill isolated => ?_, ?_, fun k n door => ?_,
    fun k out => ?_⟩, fun up n => ⟨fun c runs config last => ?_, fun c runs config more => ?_,
    fun stopped => ?_⟩⟩
  · exact request_accepted taken (askReleaseDoors_accepted checks)
  · exact request_answered taken (askReleaseDoors_refused checks)
  · exact request_accepted taken (askCloseDoors_accepted sides)
  · exact request_accepted taken (askIsolate_accepted door standstill)
  · exact request_accepted taken (askDeisolate_accepted door standstill isolated)
  · exact request_accepted (body := askClearFlags 0) taken rfl
  · exact request_accepted taken (askClearFlags_door door)
  · exact request_answered taken (askClearFlags_out out)
  · exact become_up up (dwellExpires_last runs fun _ same =>
      Option.some.inj (config.symm.trans same) ▸ last)
  · exact become_up up (dwellExpires_again runs config more)
  · exact become_up up (dwellExpires_stopped stopped)

/-! ### The law of release (R133) -/

theorem finish_dcu (d : Device) : (finish d).dcu = d.dcu := by
  obtain ⟨-, -, -, -, -, -, dcu, -⟩ := finish_blocks d
  exact dcu

theorem finish_bau (d : Device) : (finish d).bau = d.bau := by
  obtain ⟨-, -, -, -, -, bau, -⟩ := finish_blocks d
  exact bau

theorem setDoor_dcu (n : DoorNo) (r : DoorRec) (d : Device) :
    (setDoor n r d).dcu = { d.dcu with doors := d.dcu.doors.set n r } := by
  unfold setDoor
  dsimp only
  split
  · rfl
  · exact (notify_keeps _ _).dcu

/-- The part after reset, but for door 1: ISOLATED, with the order RELEASE and its dwell running. -/
def isolatedDwelling : Device :=
  { initialDevice with dcu := { initialDevice.dcu with
      doors := initialDevice.dcu.doors.set .d1 ⟨.isolated, .release, 0, some ⟨0, 0⟩, none⟩ } }

/-- No release is in force, and the one door under RELEASE is out of use. -/
theorem isolatedDwelling_releaseLaw : ReleaseLaw isolatedDwelling := by
  refine fun _ => ⟨nofun, fun n released used => ?_⟩
  cases n with
  | d1 => exact absurd rfl used
  | d2 | d3 | d4 => cases released

/-- The expiry does not ask whether its door is in use. -/
theorem isolatedDwelling_expires :
    step ⟨isolatedDwelling, [.reopenDwellExpiry .d1]⟩ = .next ⟨finish (setDoor .d1
      ⟨.obstructed, .release, 1, none, none⟩ isolatedDwelling), []⟩ :=
  become_up (s := ⟨isolatedDwelling, []⟩) nofun (dwellExpires_last nofun nofun)

/-- Refutes O14: the law says nothing of the order of an ISOLATED door, but the expiry of a reopen dwell
does not ask whether its door is in use, and leaves door 1 OBSTRUCTED under RELEASE where nothing is
released. The law alone is not inductive; this state breaks the law of the held door (O15), which keeps a
dwell to a REVERSING door. -/
theorem not_releaseLawKept : ¬ Obligations.ReleaseLawKept := by
  unfold Obligations.ReleaseLawKept
  intro kept
  obtain ⟨-, doors⟩ := kept _ _ isolatedDwelling_releaseLaw isolatedDwelling_expires
    (by rw [finish_bau]; nofun)
  rw [finish_dcu, setDoor_dcu] at doors
  obtain ⟨rel, released, -⟩ := doors .d1 rfl nofun
  cases released

end Sys2Proof.Machine
end

section
/-! The door bus, and what a report makes of its door: O53. -/

namespace Sys2Proof.Machine

variable {d : Device} {t : Trans} {x : Report} {r : DoorRec} {n : DoorNo}

/-! ### Polls (R143, R145) -/

theorem pollEnd_polling {b : List Byte} (trans : d.dbm.trans = some t) (stage : t.stage = .polling b) :
    pollEnd d = { d with dbm := { d.dbm with trans := some { t with stage := .window d.now } } } := by
  rw [pollEnd, trans]
  simp only [stage]

theorem repeatPoll_due {o : Nat} (trans : d.dbm.trans = some t) (stage : t.stage = .repeatDue o) :
    repeatPoll d = { d with dbm := { d.dbm with trans := some { t with
      stage := formPoll d t.unit (t.repeatNo + 1), repeatNo := t.repeatNo + 1 } } } := by
  rw [repeatPoll, trans]
  simp only [stage]

theorem crcShift_zero {w : Nat} (poly : BitVec w) (k : Nat) : crcShift poly k 0#w = 0#w := by
  induction k with
  | zero => rfl
  | succ k ih => simpa [crcShift] using ih

/-- Bytes behind which their own CRC-8 stands come out at 0. -/
theorem crc8_append_crc8 (l : List Byte) : crc8 (l ++ [crc8 l]) = 0#8 := by
  have last : crcByte 0x07#8 (crc8 l) (crc8 l) = crcShift 0x07#8 8 0#8 := by
    rw [crcByte]
    simp
  rw [crc8, List.foldl_append]
  exact last.trans (crcShift_zero _ 8)

/-! ### Answers (R144 to R146) -/

/-! In an open window an answer acts on the transaction as it is judged. -/

theorem takeAnswer_report {o : Nat} {judge : DoorNo → Answer} (trans : d.dbm.trans = some t)
    (stage : t.stage = .window o) (good : judge t.unit = .report x) :
    takeAnswer judge d = reportTrans t x d := by
  rw [takeAnswer, trans]
  simp only [stage, good]

theorem takeAnswer_wait {o : Nat} {judge : DoorNo → Answer} (trans : d.dbm.trans = some t)
    (stage : t.stage = .window o) (wait : judge t.unit = .wait) : takeAnswer judge d = waitTrans t d := by
  rw [takeAnswer, trans]
  simp only [stage, wait]

theorem takeAnswer_bad {o : Nat} {judge : DoorNo → Answer} (trans : d.dbm.trans = some t)
    (stage : t.stage = .window o) (bad : judge t.unit = .bad) :
    takeAnswer judge d = missTrans t false d := by
  rw [takeAnswer, trans]
  simp only [stage, bad]

/-- Without a window the bytes of an answer are discarded. -/
theorem takeAnswer_closed (judge : DoorNo → Answer)
    (closed : ∀ t o, d.dbm.trans = some t → t.stage ≠ .window o) : takeAnswer judge d = d := by
  unfold takeAnswer
  split
  next t trans =>
    split
    next o stage => exact absurd stage (closed t o trans)
    next => rfl
  next => rfl

theorem judgeReport_good {a : AnswerBytes} (address : a.address = unitByte n) (good : reportOf a = some x) :
    judgeReport n a = .report x := by rw [judgeReport, if_pos address, good]

theorem judgeReport_bad {a : AnswerBytes} (bad : a.address ≠ unitByte n ∨ reportOf a = none) :
    judgeReport n a = .bad := by
  unfold judgeReport
  split
  next address => rw [bad.resolve_left (not_not.mpr address)]
  next => rfl

theorem judgeWait_good {a : AnswerBytes} (address : a.address = unitByte n) : judgeWait n a = .wait :=
  if_pos address

/-! ### Misses (R146, R147) -/

theorem quad_get_set {α : Type} (q : Quad α) (n : DoorNo) (a : α) : (q.set n a).get n = a := by
  cases n <;> rfl

/-- A transaction that was not abandoned counts its miss, whatever the loss of the link brings. -/
theorem missTrans_link (t : Trans) (waited : Bool) (d : Device) (counts : t.abandoned = false) :
    (missTrans t waited d).dbm.links.get t.unit = missedLink waited (d.dbm.links.get t.unit) := by
  have missed : (mapLink t.unit (missedLink waited) (endTrans t d)).dbm.links.get t.unit
      = missedLink waited (d.dbm.links.get t.unit) := quad_get_set _ _ _
  unfold missTrans
  dsimp only
  rw [counts, if_neg Bool.false_ne_true]
  split
  · rw [(loseDoor_keeps _ _).dbm, missed]
  · exact missed

/-- The third miss in a row loses the link. -/
theorem missedLink_link (waited : Bool) (l : LinkRec) :
    (missedLink waited l).link = if 2 ≤ l.misses then .lost else l.link := by
  have third : 3 ≤ min 255 (l.misses + 1) ↔ 2 ≤ l.misses := by omega
  simp only [missedLink, third]

/-! ### A report taken (R125, R144) -/

/-- The bus behind a good report: the transaction is over, the misses are cleared, the report is kept. -/
def reportHeard (t : Trans) (x : Report) (d : Device) : Device :=
  mapLink t.unit (fun l => { l with last := some (x, d.now), misses := 0, link := .ok }) (endTrans t d)

/-- A door record with a report written into it. -/
def DoorRec.noted (x : Report) (r : DoorRec) : DoorRec := { r with last := some x }

/-- The door's record behind a good report, its conditions not yet judged. -/
def reportWritten (n : DoorNo) (x : Report) (d : Device) : Device :=
  setDoor n (reportedDoor d.mdc.config d.now x ((d.dcu.doors.get n).noted x)) d

theorem reportTrans_counts (x : Report) (d : Device) (counts : t.abandoned = false) :
    reportTrans t x d = takeReport t.unit x (reportHeard t x d) := by
  rw [reportTrans, counts, if_neg Bool.false_ne_true]
  rfl

theorem takeReport_used (x : Report) (used : (d.dcu.doors.get n).state ≠ .isolated) :
    takeReport n x d
      = judgeConditions (!d.odu.standstill && x.notShut) (reportWritten n x d) := by
  rw [Bool.and_comm, ← (setDoor_keeps n _ d).odu]
  exact if_neg used

/-- A good report clears the misses and stands in the link record, whatever the door makes of it. -/
theorem reportTrans_link (t : Trans) (x : Report) (d : Device) (counts : t.abandoned = false) :
    (reportTrans t x d).dbm.links.get t.unit
      = { d.dbm.links.get t.unit with last := some (x, d.now), misses := 0, link := .ok } := by
  rw [reportTrans_counts x d counts, (takeReport_keeps _ _ _).dbm]
  exact quad_get_set _ _ _

/-- A good report for a door in use is recorded and judged, and the conditions behind it. -/
theorem reportTrans_used (x : Report) (counts : t.abandoned = false)
    (used : (d.dcu.doors.get t.unit).state ≠ .isolated) :
    reportTrans t x d = judgeConditions (!d.odu.standstill && x.notShut)
      (reportWritten t.unit x (reportHeard t x d)) :=
  (reportTrans_counts x d counts).trans (takeReport_used (d := reportHeard t x d) x used)

/-! ### A door record after a report (R127, R128) -/

theorem reportTrans_door (x : Report) (counts : t.abandoned = false)
    (used : (d.dcu.doors.get t.unit).state ≠ .isolated) :
    (reportTrans t x d).dcu.doors.get t.unit
      = reportedDoor d.mdc.config d.now x ((d.dcu.doors.get t.unit).noted x) := by
  rw [reportTrans_used x counts used, (judgeConditions_keeps _ _).dcu, reportWritten, setDoor_dcu]
  exact quad_get_set _ _ _

theorem Report.faulty_iff (x : Report) :
    x.faulty = true ↔ x.faultCode ≠ 0#8 ∨ (x.locked = true ∧ x.leaf ≠ .closed) := by
  simp [Report.faulty]

/-- A door whose record a good report does not judge by leaf and lock: it stands OBSTRUCTED under REOPEN, or
its reopen dwell runs (R128). -/
def DoorRec.waits (r : DoorRec) : Prop :=
  r.state ≠ .fault ∧ ((r.state = .obstructed ∧ r.order = .reopen)
    ∨ (r.state = .reversing ∧ r.dwell ≠ none))

/-- The report shows the door shut. -/
def Report.shut (x : Report) : Prop := x.leaf = .closed ∧ x.locked = true

variable {c : Option CarConfig} {now : Nat}

theorem reportedDoor_faulty (faulty : x.faulty = true) : reportedDoor c now x r = faultDoor r :=
  if_pos faulty

theorem reportedDoor_obstructed (good : ¬ x.faulty = true) (state : r.state = .obstructed)
    (order : r.order = .reopen) : reportedDoor c now x r = r := by
  rw [reportedDoor, if_neg good, if_neg (by rw [state]; nofun), if_pos ⟨state, order⟩]

theorem reportedDoor_dwelling (good : ¬ x.faulty = true) (state : r.state = .reversing)
    (dwell : r.dwell ≠ none) : reportedDoor c now x r
      = if x.leaf = .closed ∧ x.locked = true then
          { r with state := .locked, dwell := none, order := .lock }
        else r := by
  rw [reportedDoor, if_neg good, if_neg (by rw [state]; nofun), if_neg (by rw [state]; nofun),
    if_pos ⟨state, Option.isSome_iff_ne_none.mpr dwell⟩]

theorem reportedDoor_judged (good : ¬ x.faulty = true) (free : ¬ r.waits) :
    reportedDoor c now x r = judgedDoor c now x r := by
  unfold reportedDoor
  rw [if_neg good]
  split
  · rfl
  next running =>
    rw [if_neg fun obstructed => free ⟨running, .inl obstructed⟩,
      if_neg fun ⟨state, dwell⟩ => free ⟨running, .inr ⟨state, Option.isSome_iff_ne_none.mp dwell⟩⟩]

theorem reportedDoor_blocked (good : ¬ x.faulty = true) (free : ¬ r.waits) (order : r.order = .close)
    (obstruction : x.obstruction = true) (ajar : ¬ x.shut) :
    reportedDoor c now x r = obstructDoor c now r :=
  (reportedDoor_judged good free).trans (if_pos ⟨order, obstruction, ajar⟩)

theorem reportedDoor_shown (good : ¬ x.faulty = true) (free : ¬ r.waits)
    (clear : ¬ (r.order = .close ∧ x.obstruction = true ∧ ¬ x.shut)) :
    reportedDoor c now x r = shownDoor x r :=
  (reportedDoor_judged good free).trans (if_neg clear)

theorem shownDoor_shut (leaf : x.leaf = .closed) (locked : x.locked = true) :
    shownDoor x r = { r with
      state := .locked, order := if r.order = .close ∨ r.order = .reopen then .lock else r.order } := by
  simp only [shownDoor, leaf, locked, if_true]

theorem shownDoor_unlocked (leaf : x.leaf = .closed) (locked : x.locked = false) :
    shownDoor x r = { r with state := if r.order = .release then .released else .closed } := by
  simp only [shownDoor, leaf, locked, Bool.false_eq_true, if_false]

/-- A leaf off its closed end ends LOCK. -/
def openedDoor (s : DoorState) (r : DoorRec) : DoorRec :=
  { r with
    state := s
    order := if r.order = .lock then .close else r.order
    attempts := if r.order = .lock then 0 else r.attempts }

/-- The state that a leaf off its closed end gives. -/
def leafState : Leaf → DoorState
  | .closed => .closed
  | .opening => .opening
  | .open => .open
  | .closing => .closing

theorem shownDoor_opened {l : Leaf} (leaf : x.leaf = l) (ajar : l ≠ .closed) :
    shownDoor x r = openedDoor (leafState l) r := by
  unfold shownDoor openedDoor
  rw [leaf]
  cases l
  case closed => exact absurd rfl ajar
  all_goals by_cases lock : r.order = .lock <;> simp [leafState, lock]

/-! ### The report stays in the record -/

theorem faultDoor_last (r : DoorRec) : (faultDoor r).last = r.last := by
  unfold faultDoor
  split <;> rfl

theorem shownDoor_last (x : Report) (r : DoorRec) : (shownDoor x r).last = r.last := by
  by_cases closed : x.leaf = .closed
  · cases locked : x.locked with
    | true => rw [shownDoor_shut closed locked]
    | false => rw [shownDoor_unlocked closed locked]
  · rw [shownDoor_opened rfl closed]
    rfl

theorem judgedDoor_last (c : Option CarConfig) (now : Nat) (x : Report) (r : DoorRec) :
    (judgedDoor c now x r).last = r.last := by
  unfold judgedDoor
  split
  · cases c <;> rfl
  · exact shownDoor_last x r

theorem reportedDoor_last (c : Option CarConfig) (now : Nat) (x : Report) (r : DoorRec) :
    (reportedDoor c now x r).last = r.last := by
  by_cases faulty : x.faulty = true
  · rw [reportedDoor_faulty faulty, faultDoor_last]
  by_cases waits : r.waits
  · obtain ⟨-, ⟨state, order⟩ | ⟨state, dwell⟩⟩ := waits
    · rw [reportedDoor_obstructed faulty state order]
    · rw [reportedDoor_dwelling faulty state dwell]
      split <;> rfl
  · rw [reportedDoor_judged faulty waits, judgedDoor_last]

/-! ### The conditions behind a report (R129, R138, R139) -/

theorem apart_doorHold : Source.doorHold.apartFromTests := by simp [Source.apartFromTests]
theorem apart_doorMoving : Source.doorMoving.apartFromTests := by simp [Source.apartFromTests]

/-- The table has an entry for a source. -/
def Bdt.lists (t : Bdt) (src : Source) : Prop := ∃ e ∈ t.entries, e.src = src

theorem KeepsEntries.lists {src : Source} {e : Device} (h : KeepsEntries src d e) (mem : d.bdt.lists src) :
    e.bdt.lists src := by
  obtain ⟨a, ha, hs⟩ := mem
  obtain ⟨ha', hs'⟩ := Bdt.mem_entriesOf.mp (h ▸ Bdt.mem_entriesOf.mpr ⟨ha, hs⟩)
  exact ⟨a, ha', hs'⟩

theorem Bdt.lists_of_present {t : Bdt} {src : Source} (h : t.present src = true) : t.lists src := by
  obtain ⟨a, ha, present⟩ := List.any_eq_true.mp h
  obtain ⟨src, -⟩ := Bool.and_eq_true_iff.mp present
  exact ⟨a, ha, beq_iff_eq.mp src⟩

theorem setCondition_secured (src : Source) (b : Bool) (d : Device) :
    allSecured (setCondition src b d) = allSecured d :=
  allSecured_of (congrArg Dcu.doors (setCondition_keeps src b d).dcu)

theorem judgeMoving_other {src : Source} (apart : src.apartFromTests) (other : src ≠ .doorMoving)
    (moving : Bool) (d : Device) : KeepsEntries src d (judgeMoving moving d) := by
  have ended : ∀ e : Device,
      KeepsEntries src e (if allSecured e then setCondition .doorMoving false e else e) := by
    intro e
    split
    · exact setCondition_other apart other false e
    · exact .refl src e
  cases moving with
  | false => exact ended d
  | true => exact (setCondition_other apart other true d).trans (ended _)

/-- DOOR_MOVING stands while a door is not secured, once an event has shown one moving (R138). -/
theorem judgeMoving_present (moving : Bool) (d : Device) (mem : d.bdt.lists .doorMoving) :
    (judgeMoving moving d).bdt.present .doorMoving
      = (!allSecured d && (d.bdt.present .doorMoving || moving)) := by
  have ended : ∀ e : Device, e.bdt.lists .doorMoving →
      (if allSecured e then setCondition .doorMoving false e else e).bdt.present .doorMoving
        = (!allSecured e && e.bdt.present .doorMoving) := by
    intro e listed
    split
    next secured => rw [setCondition_present _ _ e apart_doorMoving rfl listed, secured]; rfl
    next ajar => simp [ajar]
  cases moving with
  | false =>
    rw [Bool.or_false]
    exact ended d mem
  | true =>
    have begun := setCondition_present .doorMoving true d apart_doorMoving rfl mem
    calc (judgeMoving true d).bdt.present .doorMoving
        = (!allSecured (setCondition .doorMoving true d)
            && (setCondition .doorMoving true d).bdt.present .doorMoving) :=
          ended _ (Bdt.lists_of_present begun)
      _ = (!allSecured d && (d.bdt.present .doorMoving || true)) := by
          rw [begun, setCondition_secured, Bool.or_true]

/-- The three conditions as they stand once judged behind an event of a door. -/
theorem judgeConditions_present (moving : Bool) (mem : ∀ src, d.bdt.lists src) :
    (judgeConditions moving d).bdt.present .doorHold = !allSecured d
      ∧ (judgeConditions moving d).bdt.present .passengerAlarm = alarmPulled d
      ∧ (judgeConditions moving d).bdt.present .doorMoving
          = (!allSecured d && (d.bdt.present .doorMoving || moving)) := by
  let held := setCondition .doorHold (!allSecured d) d
  let moved := judgeMoving moving held
  have alarm : alarmPulled moved = alarmPulled d := by
    rw [alarmPulled, ((setCondition_keeps _ _ d).trans (judgeMoving_keeps moving held)).dcu]
    rfl
  have others : ∀ {src : Source}, src.apartFromTests → src ≠ .doorHold → KeepsEntries src d held :=
    fun apart other => setCondition_other apart other _ d
  refine ⟨?_, ?_, ?_⟩
  · have judged := (judgeMoving_other apart_doorHold nofun moving held).trans
      (setCondition_other (src := .passengerAlarm) apart_doorHold nofun (alarmPulled moved) moved)
    exact judged.present.trans (setCondition_present _ _ d apart_doorHold rfl (mem _))
  · have kept := (others apart_passengerAlarm nofun).trans
      (judgeMoving_other apart_passengerAlarm nofun moving held)
    exact (setCondition_present _ _ moved apart_passengerAlarm rfl (kept.lists (mem _))).trans alarm
  · have kept := others apart_doorMoving nofun
    have judged := judgeMoving_present moving held (kept.lists (mem _))
    rw [setCondition_secured, kept.present] at judged
    exact (setCondition_other (src := .passengerAlarm) apart_doorMoving nofun _ moved).present.trans judged

theorem setDoor_bdt (n : DoorNo) (r : DoorRec) (d : Device) : (setDoor n r d).bdt = d.bdt := by
  unfold setDoor
  dsimp only
  split
  · rfl
  · exact notify_bdt _ _

/-- The conditions as a good report for a door in use leaves them. -/
theorem reportTrans_present (x : Report) (counts : t.abandoned = false)
    (used : (d.dcu.doors.get t.unit).state ≠ .isolated) (ordered : d.bdt.ordered) :
    (reportTrans t x d).bdt.present .doorHold = !allSecured (reportTrans t x d)
      ∧ (reportTrans t x d).bdt.present .passengerAlarm = alarmPulled (reportTrans t x d)
      ∧ (reportTrans t x d).bdt.present .doorMoving
          = (!allSecured (reportTrans t x d)
              && (d.bdt.present .doorMoving || (!d.odu.standstill && x.notShut))) := by
  let written := reportWritten t.unit x (reportHeard t x d)
  have table : written.bdt = d.bdt := setDoor_bdt _ _ _
  have doors := (judgeConditions_keeps (!d.odu.standstill && x.notShut) written).dcu
  have judged := judgeConditions_present (d := written) (!d.odu.standstill && x.notShut)
    fun src => table ▸ ordered.mem src
  rw [reportTrans_used x counts used, allSecured_of (congrArg Dcu.doors doors), alarmPulled, doors]
  rwa [table] at judged

/-- Settles O53: the events of the bus act on the transaction as the answer is judged, a miss and a good
report write the link record, and a good report's door record and conditions are read off the cases of
R127 and R128. -/
theorem doorBusCompletes : Obligations.DoorBusCompletes := by
  refine ⟨fun s up => ⟨fun t b trans stage => ?_, fun t o trans stage => ⟨fun a x address good => ?_,
    fun a bad => ?_, fun a address => ?_, fun bytes bad => ?_, ?_⟩, fun t o trans stage => ?_,
    fun closed i answer => ?_⟩, fun t d counts => ⟨?_, ?_, ?_, fun x => ?_⟩,
    fun t x d counts used => ?_, fun n o k st =>
      ⟨_, rfl, crc8_append_crc8 [unitByte n, orderByte o, BitVec.ofNat 8 k, boolByte st]⟩⟩
  · exact become_up up (pollEnd_polling trans stage)
  · exact become_up up (takeAnswer_report trans stage (judgeReport_good address good))
  · exact become_up up (takeAnswer_bad trans stage (judgeReport_bad bad))
  · exact become_up up (takeAnswer_wait trans stage (judgeWait_good address))
  · exact become_up up (takeAnswer_bad trans stage bad)
  · exact become_up (f := windowCloses) up (takeAnswer_bad trans stage rfl)
  · exact become_up up (repeatPoll_due trans stage)
  · obtain ⟨a, rfl⟩ | ⟨a, rfl⟩ | ⟨b, rfl⟩ | rfl := answer
    · exact become_up up (takeAnswer_closed _ closed)
    · exact become_up up (takeAnswer_closed _ closed)
    · exact become_up up (takeAnswer_closed _ closed)
    · exact become_up (f := windowCloses) up (takeAnswer_closed _ closed)
  · rw [missTrans_link t false d counts]
    rfl
  · rw [missTrans_link t false d counts]
    rfl
  · rw [missTrans_link t false d counts, missedLink_link]
  · rw [reportTrans_link t x d counts]
    exact ⟨rfl, rfl, rfl⟩
  · dsimp only
    rw [reportTrans_door x counts used]
    refine ⟨reportedDoor_last _ _ _ _, fun faulty state => ?_, fun faulty state => ?_,
      fun good state order => ?_, fun good state dwell => ?_,
      fun good free ⟨order, obstruction, ajar⟩ c config => ?_,
      fun good free clear => ?_, fun ordered => reportTrans_present x counts used ordered⟩
    · exact (reportedDoor_faulty (x.faulty_iff.mpr faulty)).trans (if_pos state)
    · exact (reportedDoor_faulty (x.faulty_iff.mpr faulty)).trans (if_neg state)
    · exact reportedDoor_obstructed (mt x.faulty_iff.mp good) state order
    · exact reportedDoor_dwelling (mt x.faulty_iff.mp good) state dwell
    · rw [reportedDoor_blocked (r := (d.dcu.doors.get t.unit).noted x) (mt x.faulty_iff.mp good) free order
        obstruction ajar, config]
      rfl
    · rw [reportedDoor_shown (r := (d.dcu.doors.get t.unit).noted x) (mt x.faulty_iff.mp good) free clear]
      refine ⟨fun ⟨leaf, locked⟩ => ?_, fun leaf unlocked => ?_, fun leaf => ?_, fun leaf => ?_,
        fun leaf => ?_⟩
      · rw [shownDoor_shut leaf locked]
        exact ⟨rfl, rfl, rfl⟩
      · rw [shownDoor_unlocked leaf unlocked]
        exact ⟨rfl, rfl⟩
      · rw [shownDoor_opened leaf nofun]
        exact ⟨rfl, rfl, rfl⟩
      · rw [shownDoor_opened leaf nofun]
        exact ⟨rfl, rfl, rfl⟩
      · rw [shownDoor_opened leaf nofun]
        exact ⟨rfl, rfl, rfl⟩

end Sys2Proof.Machine
end

section
/-! The outbox of the Valley Radio Unit: what keeps it tidy when one entry is rewritten, dropped or queued,
and a free number for every new entry (R161 to R163). -/

namespace Sys2Proof.Machine

/-! ### A tidy outbox -/

/-- The law of the outbox, as it speaks of the entries alone (R161, R163). -/
def TidyOutbox (l : List OutEntry) : Prop :=
  l.length ≤ outboxRoom ∧ (l.map (·.seq)).Nodup
    ∧ (l.filter (fun e => e.queuedOf .positionReport)).length ≤ 1

theorem outboxLaw_iff (d : Device) : OutboxLaw d ↔ TidyOutbox d.vru.outbox := Iff.rfl

theorem tidyOutbox_nil : TidyOutbox [] := ⟨Nat.zero_le _, .nil, Nat.zero_le _⟩

/-- An entry that leaves, from any place, leaves the rest tidy. -/
theorem TidyOutbox.sublist {l m : List OutEntry} (h : TidyOutbox l) (sub : m.Sublist l) :
    TidyOutbox m := by
  obtain ⟨room, numbers, reports⟩ := h
  exact ⟨sub.length_le.trans room, numbers.sublist (sub.map _),
    (sub.filter _).length_le.trans reports⟩

/-- An entry rewritten keeps its number, and is an unsent position report only if it was one. -/
structure KeepsSlot (e x : OutEntry) : Prop where
  seq : x.seq = e.seq
  queued : x.queuedOf .positionReport = true → e.queuedOf .positionReport = true

theorem KeepsSlot.ite {p : Prop} [Decidable p] {e x : OutEntry} (h : KeepsSlot e x) :
    KeepsSlot e (if p then x else e) := by
  split
  · exact h
  · exact ⟨rfl, id⟩

theorem TidyOutbox.map {l : List OutEntry} {f : OutEntry → OutEntry} (h : TidyOutbox l)
    (hf : ∀ e ∈ l, KeepsSlot e (f e)) : TidyOutbox (l.map f) := by
  obtain ⟨room, numbers, reports⟩ := h
  have seqs : (l.map f).map (·.seq) = l.map (·.seq) := by
    rw [List.map_map]
    exact List.map_congr_left fun e mem => (hf e mem).seq
  have fewer : ((l.map f).filter (fun e => e.queuedOf .positionReport)).length
      ≤ (l.filter (fun e => e.queuedOf .positionReport)).length := by
    rw [List.filter_map, List.length_map, ← List.countP_eq_length_filter,
      ← List.countP_eq_length_filter]
    exact List.countP_mono_left fun e mem => (hf e mem).queued
  exact ⟨by rwa [List.length_map], by rwa [seqs], fewer.trans reports⟩

/-- In a tidy outbox the entry of a number is the only one. -/
theorem TidyOutbox.eq_of_seq {l : List OutEntry} {x y : OutEntry} (h : TidyOutbox l) (hx : x ∈ l)
    (hy : y ∈ l) (same : x.seq = y.seq) : x = y := by
  obtain ⟨-, numbers, -⟩ := h
  exact List.inj_on_of_nodup_map numbers hx hy same

/-- A new entry behind the rest. -/
theorem TidyOutbox.append {l : List OutEntry} {e : OutEntry} (h : TidyOutbox l)
    (room : l.length < outboxRoom) (free : ∀ x ∈ l, x.seq ≠ e.seq)
    (alone : e.kind = .positionReport → ∀ x ∈ l, x.queuedOf .positionReport = false) :
    TidyOutbox (l ++ [e]) := by
  obtain ⟨-, numbers, reports⟩ := h
  refine ⟨by simpa using room, ?_, ?_⟩
  · rw [List.map_append, List.map_singleton, List.nodup_append_comm, List.singleton_append,
      List.nodup_cons]
    refine ⟨fun mem => ?_, numbers⟩
    obtain ⟨x, hx, same⟩ := List.mem_map.mp mem
    exact free x hx same
  · rw [List.filter_append, List.length_append]
    by_cases report : e.kind = .positionReport
    · have others : l.filter (fun e => e.queuedOf .positionReport) = [] :=
        List.filter_eq_nil_iff.mpr fun x hx => by simp [alone report x hx]
      rw [others, List.length_nil, Nat.zero_add]
      exact List.length_filter_le _ [e]
    · simpa [OutEntry.queuedOf, report] using reports

/-! ### A free number (R161) -/

theorem carries_iff {l : List OutEntry} {n : Byte} : carries l n = true ↔ n ∈ l.map (·.seq) := by
  simp [carries]

/-- A number searched for and still carried: so is every number passed on the way. -/
theorem freeSeq_carried {l : List OutEntry} {fuel : Nat} {n : Byte}
    (h : carries l (freeSeq l fuel n) = true) :
    ∀ i ≤ fuel, carries l (n + BitVec.ofNat 8 i) = true := by
  induction fuel generalizing n with
  | zero =>
    intro i hi
    obtain rfl := Nat.le_zero.mp hi
    simpa [freeSeq] using h
  | succ fuel ih =>
    unfold freeSeq at h
    split at h
    next carried =>
      rintro (_ | i) hi
      · simpa using carried
      · have next := ih h i (Nat.le_of_succ_le_succ hi)
        rwa [BitVec.add_assoc, ← BitVec.ofNat_add, Nat.add_comm 1 i] at next
    next free => exact absurd h free

/-- With room in the outbox one of sixteen numbers in a row is free. -/
theorem freeSeq_free {l : List OutEntry} (room : l.length < outboxRoom) (n : Byte) :
    ∀ x ∈ l, x.seq ≠ freeSeq l outboxRoom n := by
  intro x mem same
  have carried := freeSeq_carried (carries_iff.mpr (List.mem_map.mpr ⟨x, mem, same⟩))
  have distinct : ((List.range outboxRoom).map (fun i => n + BitVec.ofNat 8 i)).Nodup := by
    refine List.nodup_range.map_on fun i hi j hj same => ?_
    rw [outboxRoom, List.mem_range] at hi hj
    bv_omega
  have within : (List.range outboxRoom).map (fun i => n + BitVec.ofNat 8 i) ⊆ l.map (·.seq) := by
    intro b hb
    obtain ⟨i, hi, rfl⟩ := List.mem_map.mp hb
    exact carries_iff.mp (carried i (List.mem_range.mp hi).le)
  have many := (distinct.subperm within).length_le
  rw [List.length_map, List.length_map, List.length_range] at many
  exact absurd room (Nat.not_lt.mpr many)

/-! ### The operations of the outbox (R161 to R163) -/

variable {d : Device}

@[simp] theorem notify_vru (n : Notice) (d : Device) : (notify n d).vru = d.vru := by
  unfold notify
  split <;> rfl

@[simp] theorem dropEntry_tidy (n : Byte) (h : TidyOutbox d.vru.outbox) :
    TidyOutbox (dropEntry n d).vru.outbox := h.sublist List.filter_sublist

/-- One entry rewritten in its slot. -/
theorem mapEntry_tidy {n : Byte} {f : OutEntry → OutEntry} (h : TidyOutbox d.vru.outbox)
    (hf : ∀ e ∈ d.vru.outbox, e.seq = n → KeepsSlot e (f e)) :
    TidyOutbox (mapEntry n f d).vru.outbox := by
  refine h.map fun e mem => ?_
  split
  next same => exact hf e mem same
  next => exact ⟨rfl, id⟩

theorem appendEntry_tidy {k : UplinkKind} (p : List Byte) (h : TidyOutbox d.vru.outbox)
    (room : d.vru.outbox.length < outboxRoom)
    (alone : k = .positionReport → ∀ x ∈ d.vru.outbox, x.queuedOf .positionReport = false) :
    TidyOutbox (appendEntry k p d).vru.outbox := h.append room (freeSeq_free room _) alone

/-- Dropping an entry that stands in a tidy outbox makes room. -/
theorem dropEntry_room {e : OutEntry} (h : TidyOutbox d.vru.outbox) (mem : e ∈ d.vru.outbox) :
    (dropEntry e.seq d).vru.outbox.length < outboxRoom := by
  obtain ⟨room, -, -⟩ := h
  refine Nat.lt_of_lt_of_le ?_ room
  exact List.length_filter_lt_length_iff_exists.mpr ⟨e, mem, by simp⟩

@[simp] theorem dropQueuedReport_tidy (h : TidyOutbox d.vru.outbox) :
    TidyOutbox (dropQueuedReport d).vru.outbox := by
  unfold dropQueuedReport
  split <;> simp [h]

/-- The unsent position report leaves its room to another entry (R163). -/
theorem dropQueuedReport_room (h : TidyOutbox d.vru.outbox)
    (stands : d.vru.outbox.any (fun e => e.queuedOf .positionReport) = true) :
    (dropQueuedReport d).vru.outbox.length < outboxRoom := by
  unfold dropQueuedReport
  split
  next found => exact dropEntry_room h (List.mem_of_find?_eq_some found)
  next absent =>
    obtain ⟨e, mem, queued⟩ := List.any_eq_true.mp stands
    exact absurd queued (List.find?_eq_none.mp absent e mem)

theorem queueEntry_tidy {k : UplinkKind} (hk : k ≠ .positionReport) (p : List Byte)
    (h : TidyOutbox d.vru.outbox) : TidyOutbox (queueEntry k p d).1.vru.outbox := by
  have other (x : Device) : k = .positionReport → ∀ e ∈ x.vru.outbox,
      e.queuedOf .positionReport = false := fun same => absurd same hk
  unfold queueEntry
  split
  next possible =>
    dsimp only
    split
    next room => exact appendEntry_tidy p h room (other d)
    next full =>
      have stands : d.vru.outbox.any (fun e => e.queuedOf .positionReport) = true := by
        simpa [roomFor, full] using possible
      exact appendEntry_tidy p (dropQueuedReport_tidy h) (dropQueuedReport_room h stands) (other _)
  next => simpa using h

/-- A position report is queued only where none waits unsent (R163). -/
@[simp] theorem callPosition_tidy (h : TidyOutbox d.vru.outbox) :
    TidyOutbox (callPosition d).vru.outbox := by
  unfold callPosition
  split
  next => exact mapEntry_tidy h fun _ _ _ => ⟨rfl, id⟩
  next absent =>
    split
    next room =>
      exact appendEntry_tidy _ h room fun _ e mem => by simpa using List.find?_eq_none.mp absent e mem
    next => simpa using h

@[simp] theorem callEvent_tidy (e : Entry) (h : TidyOutbox d.vru.outbox) :
    TidyOutbox (callEvent e d).vru.outbox :=
  queueEntry_tidy (k := .eventReport) nofun _ h

/-! ### The logon and the transmitter (R154, R163 to R166) -/

@[simp] theorem roomForLogon_tidy (h : TidyOutbox d.vru.outbox) :
    TidyOutbox (roomForLogon d).vru.outbox := by
  unfold roomForLogon dropOldestReport
  (repeat' split) <;> simp [h]

/-- Where no LOGON stands, room for one is made: a full outbox holds something else to drop (R163). -/
theorem roomForLogon_room (h : TidyOutbox d.vru.outbox)
    (others : ∀ e ∈ d.vru.outbox, e.kind ≠ .logon) : (roomForLogon d).vru.outbox.length < outboxRoom := by
  unfold roomForLogon
  split
  next room => exact room
  next full =>
    split
    next stands => exact dropQueuedReport_room h stands
    next =>
      unfold dropOldestReport
      split
      next found => simpa using dropEntry_room h (List.mem_of_find?_eq_some found)
      next absent =>
        have empty : d.vru.outbox = [] := List.eq_nil_iff_forall_not_mem.mpr fun e mem =>
          others e mem (by simpa using List.find?_eq_none.mp absent e mem)
        exact absurd (by rw [empty]; decide) full

/-- The new LOGON is no position report, nor was the entry whose slot it takes (R154). -/
theorem replaceLogon_tidy {e : OutEntry} (p : List Byte) (h : TidyOutbox d.vru.outbox)
    (mem : e ∈ d.vru.outbox) (logon : e.kind = .logon) :
    TidyOutbox (replaceLogon p e d).vru.outbox := by
  refine mapEntry_tidy (d := d) h fun x hx same => ⟨rfl, ?_⟩
  obtain rfl := h.eq_of_seq hx mem same
  simp [OutEntry.queuedOf, logon]

@[simp] theorem queueLogon_tidy (h : TidyOutbox d.vru.outbox) :
    TidyOutbox (queueLogon d).vru.outbox := by
  unfold queueLogon
  dsimp only
  split
  next found =>
    have logon := List.find?_some found
    exact replaceLogon_tidy _ h (List.mem_of_find?_eq_some found) (by simpa using logon)
  next absent =>
    have others := fun e mem => List.find?_eq_none.mp absent e mem
    exact appendEntry_tidy _ (roomForLogon_tidy h)
      (roomForLogon_room h fun e mem => by simpa using others e mem) nofun

@[simp] theorem endLogon_tidy (h : TidyOutbox d.vru.outbox) :
    TidyOutbox (endLogon d).vru.outbox := by
  unfold endLogon
  dsimp only
  split
  · exact dropEntry_tidy _ h
  · exact h

@[simp] theorem enterLink_tidy (l : LinkState) (h : TidyOutbox d.vru.outbox) :
    TidyOutbox (enterLink l d).vru.outbox := by
  cases l with
  | offline => exact tidyOutbox_nil
  | loggingOn => exact queueLogon_tidy h
  | lost => exact queueLogon_tidy h
  | refused => exact endLogon_tidy h
  | online => exact (endLogon_tidy h).map fun _ _ => .ite ⟨rfl, id⟩

@[simp] theorem linkActions_tidy (l : LinkState) (h : TidyOutbox d.vru.outbox) :
    TidyOutbox (linkActions l d).vru.outbox := by
  have entered : TidyOutbox (enterLink l { d with vru := { d.vru with link := l } }).vru.outbox :=
    enterLink_tidy l h
  unfold linkActions
  dsimp only
  split
  · exact entered.map fun _ _ => ⟨rfl, id⟩
  · exact entered

@[simp] theorem acknowledge_tidy (n : Byte) (h : TidyOutbox d.vru.outbox) :
    TidyOutbox (acknowledge n d).vru.outbox := by
  unfold acknowledge
  (repeat' split) <;> simp [h]

@[simp] theorem ackTimeout_tidy (n : Byte) (h : TidyOutbox d.vru.outbox) :
    TidyOutbox (ackTimeout n d).vru.outbox := by
  unfold ackTimeout
  (repeat' split)
  · exact mapEntry_tidy h fun _ _ _ => ⟨rfl, id⟩
  · simp [h]
  · exact h
  · exact h

/-- An entry given to the modem is queued no more (R166). -/
@[simp] theorem giveEntry_tidy (e : OutEntry) (h : TidyOutbox d.vru.outbox) :
    TidyOutbox (giveEntry e d).vru.outbox := mapEntry_tidy (d := d) h fun _ _ _ => ⟨rfl, nofun⟩

@[simp] theorem radioPump_tidy (h : TidyOutbox d.vru.outbox) :
    TidyOutbox (radioPump d).vru.outbox := by
  unfold radioPump
  (repeat' split) <;> simp [h]

@[simp] theorem telegramEnd_tidy (h : TidyOutbox d.vru.outbox) :
    TidyOutbox (telegramEnd d).vru.outbox := by
  unfold telegramEnd
  (repeat' split)
  · exact h
  · exact h
  · exact mapEntry_tidy h fun _ _ _ => ⟨rfl, id⟩

@[simp] theorem logonExpires_tidy (h : TidyOutbox d.vru.outbox) :
    TidyOutbox (logonExpires d).vru.outbox := by
  unfold logonExpires
  split
  · exact h.map fun _ _ => .ite ⟨rfl, id⟩
  · exact h

@[simp] theorem finish_tidy (h : TidyOutbox d.vru.outbox) : TidyOutbox (finish d).vru.outbox := by
  unfold finish
  rw [(linkPump_keeps_lines _).2.2]
  exact radioPump_tidy (by rwa [busPump_vru])

end Sys2Proof.Machine
end

section
/-! The outbox through the shared operations: each leaves it tidy. An operation's proof splits its branches;
each is closed by the lemmas of the operations it calls, which stand above it. -/

namespace Sys2Proof.Machine

variable {d : Device}

/-! ### An event of the table (R95) -/

theorem foldl_tidy {α : Type} {f : Device → α → Device}
    (hf : ∀ {x : Device} (a : α), TidyOutbox x.vru.outbox → TidyOutbox (f x a).vru.outbox)
    (l : List α) (h : TidyOutbox d.vru.outbox) : TidyOutbox (l.foldl f d).vru.outbox := by
  induction l generalizing d with
  | nil => exact h
  | cons a l ih => exact ih (hf a h)

@[simp] theorem tableNotices_tidy (old : Bdt) (h : TidyOutbox d.vru.outbox) :
    TidyOutbox (tableNotices old d).vru.outbox := by
  have told := foldl_tidy (f := fun x e => notify (demandNotice e) x)
    (fun _ k => by simpa using k) (changedEntries old.entries d.bdt.entries) h
  unfold tableNotices
  dsimp only
  split <;> simp [told]

@[simp] theorem tableReports_tidy (old : Bdt) (h : TidyOutbox d.vru.outbox) :
    TidyOutbox (tableReports old d).vru.outbox := by
  refine foldl_tidy (f := fun x e => callEvent e x) (fun e => callEvent_tidy e) _ ?_
  split <;> simp [h]

@[simp] theorem blendAfter_vru (old : Bdt) (d : Device) : (blendAfter old d).vru = d.vru := by
  unfold blendAfter
  (repeat' split) <;> rfl

@[simp] theorem tableEvent_tidy (f : List Entry → List Entry) (h : TidyOutbox d.vru.outbox) :
    TidyOutbox (tableEvent f d).vru.outbox := by simp [tableEvent, h]

@[simp] theorem rollawayAfterTest_tidy (h : TidyOutbox d.vru.outbox) :
    TidyOutbox (rollawayAfterTest d).vru.outbox := by
  unfold rollawayAfterTest
  split <;> simp [h]

@[simp] theorem reportTestFailure_tidy (c : EndCause) (h : TidyOutbox d.vru.outbox) :
    TidyOutbox (reportTestFailure c d).vru.outbox := by
  have cleared := tableEvent_tidy (onEntry .brakeTest clearEntry)
    (tableEvent_tidy (onEntry .brakeTest (raiseEntry (raiseOf .none none d))) h)
  unfold reportTestFailure
  dsimp only
  split <;> simp [cleared]

@[simp] theorem endTest_tidy (r : TestResult) (c : EndCause) (h : TidyOutbox d.vru.outbox) :
    TidyOutbox (endTest r c d).vru.outbox := by
  have written : TidyOutbox
      (writeTestEnd r c (movementAfter d.bau.test d.bau.run) (endPhase d)).vru.outbox := h
  unfold endTest
  dsimp only
  rw [notify_vru]
  split
  · exact rollawayAfterTest_tidy (reportTestFailure_tidy c written)
  · exact rollawayAfterTest_tidy written

@[simp] theorem abortIfEmergency_tidy (h : TidyOutbox d.vru.outbox) :
    TidyOutbox (abortIfEmergency d).vru.outbox := by
  unfold abortIfEmergency
  split <;> simp [h]

@[simp] theorem bdtEvent_tidy (f : List Entry → List Entry) (h : TidyOutbox d.vru.outbox) :
    TidyOutbox (bdtEvent f d).vru.outbox := by simp [bdtEvent, h]

@[simp] theorem raiseWith_tidy (src : Source) (l : Level) (x : Option Nat)
    (h : TidyOutbox d.vru.outbox) : TidyOutbox (raiseWith src l x d).vru.outbox := by
  unfold raiseWith
  split <;> simp [h]

@[simp] theorem clear_tidy (src : Source) (h : TidyOutbox d.vru.outbox) :
    TidyOutbox (clear src d).vru.outbox := by simp [clear, h]

@[simp] theorem setCondition_tidy (src : Source) (b : Bool) (h : TidyOutbox d.vru.outbox) :
    TidyOutbox (setCondition src b d).vru.outbox := by
  unfold setCondition raise
  (repeat' split) <;> simp [h]

/-! ### Brakes and doors -/

@[simp] theorem refreshBrakes_tidy (h : TidyOutbox d.vru.outbox) :
    TidyOutbox (refreshBrakes d).vru.outbox := by simp [refreshBrakes, h]

@[simp] theorem judgeBrakeFault_tidy (b : Bool) (h : TidyOutbox d.vru.outbox) :
    TidyOutbox (judgeBrakeFault b d).vru.outbox := by
  unfold judgeBrakeFault raise
  (repeat' split) <;> simp [h]

@[simp] theorem judgeChannel_tidy (ch : Channel) (h : TidyOutbox d.vru.outbox) :
    TidyOutbox (judgeChannel ch d).vru.outbox := by simp [judgeChannel, h]

@[simp] theorem beginPhase_tidy (p : Phase) (n : Nat) (h : TidyOutbox d.vru.outbox) :
    TidyOutbox (beginPhase p n d).vru.outbox := by
  unfold beginPhase
  dsimp only
  split <;> simp [h]

@[simp] theorem nextPhase_tidy (r : TestRun) (h : TidyOutbox d.vru.outbox) :
    TidyOutbox (nextPhase r d).vru.outbox := by
  have noted : TidyOutbox (notePhaseMovement d).vru.outbox := h
  unfold nextPhase
  (repeat' split)
  · exact beginPhase_tidy _ _ noted
  · exact beginPhase_tidy _ _ noted
  · exact beginPhase_tidy _ _ noted
  · exact beginPhase_tidy _ _ noted
  · exact endTest_tidy _ _ noted
  · exact endTest_tidy _ _ noted

@[simp] theorem testMovement_tidy (n : Nat) (h : TidyOutbox d.vru.outbox) :
    TidyOutbox (testMovement n d).vru.outbox := by
  unfold testMovement
  dsimp only
  (repeat' split) <;> simp [h]

@[simp] theorem testStandstillLost_tidy (h : TidyOutbox d.vru.outbox) :
    TidyOutbox (testStandstillLost d).vru.outbox := by
  unfold testStandstillLost
  (repeat' split) <;> simp [h]

@[simp] theorem setDoor_tidy (n : DoorNo) (r : DoorRec) (h : TidyOutbox d.vru.outbox) :
    TidyOutbox (setDoor n r d).vru.outbox := by
  unfold setDoor
  dsimp only
  split <;> simp [h]

@[simp] theorem eachDoor_tidy (f : DoorNo → DoorRec → DoorRec) (h : TidyOutbox d.vru.outbox) :
    TidyOutbox (eachDoor f d).vru.outbox :=
  foldl_tidy (fun _ => setDoor_tidy _ _) _ h

@[simp] theorem withdrawRelease_tidy (h : TidyOutbox d.vru.outbox) :
    TidyOutbox (withdrawRelease d).vru.outbox := by
  unfold withdrawRelease
  split <;> simp [h]

@[simp] theorem judgeRelease_tidy (h : TidyOutbox d.vru.outbox) :
    TidyOutbox (judgeRelease d).vru.outbox := by
  unfold judgeRelease
  (repeat' split) <;> simp [h]

@[simp] theorem judgeMoving_tidy (b : Bool) (h : TidyOutbox d.vru.outbox) :
    TidyOutbox (judgeMoving b d).vru.outbox := by
  unfold judgeMoving
  dsimp only
  (repeat' split) <;> simp [h]

@[simp] theorem judgeConditions_tidy (b : Bool) (h : TidyOutbox d.vru.outbox) :
    TidyOutbox (judgeConditions b d).vru.outbox :=
  setCondition_tidy _ _ (judgeMoving_tidy b (setCondition_tidy _ _ h))

@[simp] theorem judgeDoorConditions_tidy (h : TidyOutbox d.vru.outbox) :
    TidyOutbox (judgeDoorConditions d).vru.outbox := judgeConditions_tidy false h

@[simp] theorem takeReport_tidy (n : DoorNo) (x : Report) (h : TidyOutbox d.vru.outbox) :
    TidyOutbox (takeReport n x d).vru.outbox := by
  unfold takeReport
  dsimp only
  split <;> simp [h]

@[simp] theorem loseDoor_tidy (n : DoorNo) (h : TidyOutbox d.vru.outbox) :
    TidyOutbox (loseDoor n d).vru.outbox := by
  unfold loseDoor
  dsimp only
  split <;> simp [h]

@[simp] theorem judgeDoorsMoving_tidy (h : TidyOutbox d.vru.outbox) :
    TidyOutbox (judgeDoorsMoving d).vru.outbox := by
  unfold judgeDoorsMoving
  split <;> simp [h]

/-! ### Mode and supervision -/

@[simp] theorem refreshModeEntry_tidy (h : TidyOutbox d.vru.outbox) :
    TidyOutbox (refreshModeEntry d).vru.outbox := by simp [refreshModeEntry, h]

@[simp] theorem modeNotice_tidy (h : TidyOutbox d.vru.outbox) :
    TidyOutbox (modeNotice d).vru.outbox := by simp [modeNotice, h]

@[simp] theorem rollawayTest_tidy (h : TidyOutbox d.vru.outbox) :
    TidyOutbox (rollawayTest d).vru.outbox := by
  unfold rollawayTest
  split <;> simp [h]

@[simp] theorem quietSupervisor_tidy (h : TidyOutbox d.vru.outbox) :
    TidyOutbox (quietSupervisor d).vru.outbox := by
  have cleared := setCondition_tidy .authority false
    (setCondition_tidy .overspeedEb false (setCondition_tidy .overspeedSb false h))
  unfold quietSupervisor
  dsimp only
  split <;> simp [cleared]

@[simp] theorem changeMode_tidy (m : Mode) (h : TidyOutbox d.vru.outbox) :
    TidyOutbox (changeMode m d).vru.outbox := by
  have called : TidyOutbox (callPosition (modeNotice (setOutputs
      (refreshModeEntry { d with mdc := { d.mdc with mode := m } })))).vru.outbox :=
    callPosition_tidy (modeNotice_tidy (refreshModeEntry_tidy h))
  unfold changeMode
  dsimp only
  (repeat' split)
  · exact h
  · exact rollawayTest_tidy (judgeRelease_tidy (quietSupervisor_tidy called))
  · exact rollawayTest_tidy (judgeRelease_tidy called)

@[simp] theorem reportCauses_tidy (h : TidyOutbox d.vru.outbox) :
    TidyOutbox (reportCauses d).vru.outbox := by
  unfold reportCauses
  dsimp only
  (repeat' split) <;> simp [h]

@[simp] theorem positionChanged_tidy (h : TidyOutbox d.vru.outbox) :
    TidyOutbox (positionChanged d).vru.outbox :=
  judgeRelease_tidy (reportCauses_tidy (setCondition_tidy _ _ h))

@[simp] theorem ssvEvent_tidy (src : Source) (a b : Bool) (x : Option Nat)
    (h : TidyOutbox d.vru.outbox) : TidyOutbox (ssvEvent src a b x d).vru.outbox := by
  unfold ssvEvent
  (repeat' split) <;> simp [h]

@[simp] theorem evaluate_tidy (h : TidyOutbox d.vru.outbox) :
    TidyOutbox (evaluate d).vru.outbox := by
  unfold evaluate
  split
  · exact h
  · dsimp only
    (repeat' split)
    · exact ssvEvent_tidy _ _ _ _ (ssvEvent_tidy _ _ _ _ (ssvEvent_tidy _ _ _ _ h))
    · rw [notify_vru]
      exact ssvEvent_tidy _ _ _ _ (ssvEvent_tidy _ _ _ _ (ssvEvent_tidy _ _ _ _ h))
    · exact h

/-! ### Placement and mesh -/

@[simp] theorem chooseSource_vru (d : Device) : (chooseSource d).vru = d.vru := by
  unfold chooseSource
  dsimp only
  split <;> rfl

@[simp] theorem rackEntryTest_tidy (h : TidyOutbox d.vru.outbox) :
    TidyOutbox (rackEntryTest d).vru.outbox := by
  unfold rackEntryTest
  (repeat' split) <;> simp [h]

@[simp] theorem meshChanged_tidy (h : TidyOutbox d.vru.outbox) :
    TidyOutbox (meshChanged d).vru.outbox := by
  simp [meshChanged, clearShallow, h]

@[simp] theorem placeBogies_tidy (h : TidyOutbox d.vru.outbox) :
    TidyOutbox (placeBogies d).vru.outbox := by
  unfold placeBogies
  dsimp only
  split
  · exact h
  · exact meshChanged_tidy h

@[simp] theorem placeAgain_tidy (h : TidyOutbox d.vru.outbox) :
    TidyOutbox (placeAgain d).vru.outbox := positionChanged_tidy (placeBogies_tidy h)

@[simp] theorem faultBogie_tidy (w : Bogie) (h : TidyOutbox d.vru.outbox) :
    TidyOutbox (faultBogie w d).vru.outbox :=
  positionChanged_tidy (meshChanged_tidy (setCondition_tidy _ _ h))

@[simp] theorem recoverBogies_tidy (h : TidyOutbox d.vru.outbox) :
    TidyOutbox (recoverBogies d).vru.outbox :=
  positionChanged_tidy (meshChanged_tidy h)

@[simp] theorem endMeshWindow_tidy (w : Bogie) (m : MeshRec) (h : TidyOutbox d.vru.outbox) :
    TidyOutbox (endMeshWindow w m d).vru.outbox := by
  unfold endMeshWindow
  dsimp only
  (repeat' split) <;> simp [h]

@[simp] theorem rackToothMesh_tidy (w : Bogie) (h : TidyOutbox d.vru.outbox) :
    TidyOutbox (rackToothMesh w d).vru.outbox := by
  have meshed := positionChanged_tidy (meshChanged_tidy (d := setMesh w (meshStart .meshed) d) h)
  unfold rackToothMesh
  dsimp only
  split
  · exact h
  · exact h
  · (repeat' split)
    · exact meshed
    · exact h
    · exact meshed
    · exact h
  · split
    · exact endMeshWindow_tidy _ _ h
    · exact h

@[simp] theorem pinionToothMesh_tidy (w : Bogie) (h : TidyOutbox d.vru.outbox) :
    TidyOutbox (pinionToothMesh w d).vru.outbox := by
  unfold pinionToothMesh
  dsimp only
  split <;> simp [h]

@[simp] theorem missingRack_tidy (n : Nat) (w : Bogie) (h : TidyOutbox d.vru.outbox) :
    TidyOutbox (missingRack n w d).vru.outbox := by
  unfold missingRack
  dsimp only
  (repeat' split) <;> simp [h]

/-! ### Calibration, distance and standstill -/

@[simp] theorem castVote_vru (c : CarConfig) (k : Calib) (v : Leaning) (d : Device) :
    (castVote c k v d).vru = d.vru := by
  unfold castVote
  dsimp only
  (repeat' split) <;> simp

@[simp] theorem endCalWindow_vru (n : Nat) (d : Device) : (endCalWindow n d).vru = d.vru := by
  unfold endCalWindow
  (repeat' split) <;> simp

@[simp] theorem calTooth_vru (x : Sense) (d : Device) : (calTooth x d).vru = d.vru := by
  unfold calTooth
  (repeat' split) <;> simp

@[simp] theorem calPulse_vru (x : Sense) (d : Device) : (calPulse x d).vru = d.vru := by
  unfold calPulse
  (repeat' split) <;> rfl

@[simp] theorem movePosition_vru (b : Bool) (n : Nat) (x : Option Dir) (d : Device) :
    (movePosition b n x d).vru = d.vru := by
  unfold movePosition
  dsimp only
  (repeat' split) <;> simp

@[simp] theorem rollawayDistance_tidy (n : Nat) (x : Option Dir) (h : TidyOutbox d.vru.outbox) :
    TidyOutbox (rollawayDistance n x d).vru.outbox := by simp [rollawayDistance, h]

@[simp] theorem takeDistance_tidy (b : Bool) (n : Nat) (x : Option Dir)
    (h : TidyOutbox d.vru.outbox) : TidyOutbox (takeDistance b n x d).vru.outbox :=
  rollawayDistance_tidy n x (testMovement_tidy n (placeAgain_tidy (by simpa using h)))

@[simp] theorem standstillCleared_tidy (h : TidyOutbox d.vru.outbox) :
    TidyOutbox (standstillCleared d).vru.outbox :=
  judgeDoorsMoving_tidy (judgeRelease_tidy (testStandstillLost_tidy h))

@[simp] theorem countEdge_tidy (h : TidyOutbox d.vru.outbox) :
    TidyOutbox (countEdge d).vru.outbox := by
  unfold countEdge
  dsimp only
  split <;> simp [h]

@[simp] theorem clearStartUpHold_tidy (h : TidyOutbox d.vru.outbox) :
    TidyOutbox (clearStartUpHold d).vru.outbox := by
  unfold clearStartUpHold
  split <;> simp [h]

@[simp] theorem endWithdrawn_tidy (h : TidyOutbox d.vru.outbox) :
    TidyOutbox (endWithdrawn d).vru.outbox := by
  unfold endWithdrawn
  (repeat' split) <;> simp [h]

@[simp] theorem setStandstill_tidy (h : TidyOutbox d.vru.outbox) :
    TidyOutbox (setStandstill d).vru.outbox := by
  have ended := setCondition_tidy .rollaway false (setCondition_tidy .mesh false
    (d := zeroRollaway { d with odu := { d.odu with standstill := true, dir := none } }) h)
  have cleared := bdtEvent_tidy id (clearStartUpHold_tidy ended)
  unfold setStandstill
  exact endWithdrawn_tidy (by simpa [refreshBrakes] using cleared)

@[simp] theorem countQuiet_tidy (h : TidyOutbox d.vru.outbox) :
    TidyOutbox (countQuiet d).vru.outbox := by
  unfold countQuiet
  dsimp only
  (repeat' split) <;> simp [h]

@[simp] theorem twentiethQuiet_tidy (h : TidyOutbox d.vru.outbox) :
    TidyOutbox (twentiethQuiet d).vru.outbox := by
  unfold twentiethQuiet
  split <;> simp [h]

/-! ### The radio link -/

@[simp] theorem linkTo_tidy (l : LinkState) (v : LinkEvent) (h : TidyOutbox d.vru.outbox) :
    TidyOutbox (linkTo l v d).vru.outbox :=
  reportCauses_tidy (setCondition_tidy _ _ (by simp [h]))

@[simp] theorem silenceExpires_tidy (h : TidyOutbox d.vru.outbox) :
    TidyOutbox (silenceExpires d).vru.outbox := by
  unfold silenceExpires
  split <;> simp [h]

@[simp] theorem judgeShadow_tidy (h : TidyOutbox d.vru.outbox) :
    TidyOutbox (judgeShadow d).vru.outbox := by
  unfold judgeShadow
  dsimp only
  (repeat' split) <;> simp [h]

@[simp] theorem linkFlagCleared_tidy (h : TidyOutbox d.vru.outbox) :
    TidyOutbox (linkFlagCleared d).vru.outbox := by
  unfold linkFlagCleared
  split <;> simp [h]

@[simp] theorem linkCommit_tidy (h : TidyOutbox d.vru.outbox) :
    TidyOutbox (linkCommit d).vru.outbox := by
  unfold linkCommit
  (repeat' split) <;> simp [h]

@[simp] theorem reportExpires_tidy (h : TidyOutbox d.vru.outbox) :
    TidyOutbox (reportExpires d).vru.outbox := by
  unfold reportExpires
  split <;> simp [h]

@[simp] theorem pushAck_tidy (n : Byte) (r : Result) (h : TidyOutbox d.vru.outbox) :
    TidyOutbox (pushAck n r d).vru.outbox := by
  unfold pushAck
  split <;> simp [h]

/-! ### Authority and restrictions -/

@[simp] theorem setAuthority_tidy (a : Option Authority) (t : Option Timer)
    (h : TidyOutbox d.vru.outbox) :
    TidyOutbox (setAuthority a t d).vru.outbox := by simp [setAuthority, h]

@[simp] theorem takeGrant_tidy (p : List Byte) (h : TidyOutbox d.vru.outbox) :
    TidyOutbox ((takeGrant p d).1).vru.outbox := by
  unfold takeGrant
  dsimp only
  (repeat' split) <;> simp [h]

@[simp] theorem takeShorten_tidy (p : List Byte) (h : TidyOutbox d.vru.outbox) :
    TidyOutbox ((takeShorten p d).1).vru.outbox := by
  unfold takeShorten
  split <;> simp [h]

@[simp] theorem withdrawAuthority_tidy (h : TidyOutbox d.vru.outbox) :
    TidyOutbox (withdrawAuthority d).vru.outbox := by
  unfold withdrawAuthority
  dsimp only
  (repeat' split) <;> simp [h]

@[simp] theorem authorityExpires_tidy (h : TidyOutbox d.vru.outbox) :
    TidyOutbox (authorityExpires d).vru.outbox := by
  unfold authorityExpires
  split <;> simp [h]

@[simp] theorem stage_tidy (x : Staged) (r : Result) (h : TidyOutbox d.vru.outbox) :
    TidyOutbox ((stage x r d).1).vru.outbox := by
  unfold stage
  dsimp only
  split <;> simp [h]

@[simp] theorem noticePending_vru (b : Bool) (x : Device × Result) :
    (noticePending b x).1.vru = x.1.vru := by
  unfold noticePending
  split <;> simp

@[simp] theorem takeRestriction_tidy (p : List Byte) (h : TidyOutbox d.vru.outbox) :
    TidyOutbox ((takeRestriction p d).1).vru.outbox := by
  unfold takeRestriction
  split
  · exact h
  · rw [noticePending_vru]
    (repeat' split)
    · exact h
    · exact setCondition_tidy _ _ h
    · exact h
    · exact stage_tidy _ _ h
    · exact stage_tidy _ _ (d := tighten _ d) h

@[simp] theorem takeLift_tidy (p : List Byte) (h : TidyOutbox d.vru.outbox) :
    TidyOutbox ((takeLift p d).1).vru.outbox := by
  unfold takeLift
  dsimp only
  (repeat' split) <;> simp [h]

@[simp] theorem judgeRoom_tidy (h : TidyOutbox d.vru.outbox) :
    TidyOutbox (judgeRoom d).vru.outbox := by
  unfold judgeRoom
  split <;> simp [h]

@[simp] theorem updateRestrictions_tidy (h : TidyOutbox d.vru.outbox) :
    TidyOutbox (updateRestrictions d).vru.outbox := by simp [updateRestrictions, h]

@[simp] theorem setStopOrder_tidy (b : Bool) (h : TidyOutbox d.vru.outbox) :
    TidyOutbox (setStopOrder b d).vru.outbox := by simp [setStopOrder, h]

/-! ### Telegrams -/

@[simp] theorem logonAnswer_tidy (b : Byte) (h : TidyOutbox d.vru.outbox) :
    TidyOutbox (logonAnswer b d).vru.outbox := by
  unfold logonAnswer
  (repeat' split) <;> simp [h]

@[simp] theorem handToAru_tidy (k : DownKind) (p : List Byte) (h : TidyOutbox d.vru.outbox) :
    TidyOutbox ((handToAru k p d).1).vru.outbox := by
  unfold handToAru
  split <;> simp [h]

@[simp] theorem takeAcknowledged_tidy (k : DownKind) (t : Telegram) (h : TidyOutbox d.vru.outbox) :
    TidyOutbox (takeAcknowledged k t d).vru.outbox := by
  unfold takeAcknowledged
  (repeat' split) <;> simp [h, enterWindow]

@[simp] theorem actOn_tidy (k : DownKind) (t : Telegram) (h : TidyOutbox d.vru.outbox) :
    TidyOutbox (actOn k t d).vru.outbox := by
  have acked := foldl_tidy (f := fun x n => acknowledge n x) (fun n => acknowledge_tidy n)
    (ackedNumbers t.payload) h
  unfold actOn
  (repeat' split) <;> simp [h, acked]

@[simp] theorem restartSilence_tidy (h : TidyOutbox d.vru.outbox) :
    TidyOutbox (restartSilence d).vru.outbox := by
  unfold restartSilence
  split <;> simp [h]

@[simp] theorem takeValid_tidy (k : DownKind) (t : Telegram) (h : TidyOutbox d.vru.outbox) :
    TidyOutbox (takeValid k t d).vru.outbox := by
  unfold takeValid
  dsimp only
  (repeat' split) <;> simp [h]

@[simp] theorem takeTelegram_tidy (k : DownKind) (t : Telegram) (h : TidyOutbox d.vru.outbox) :
    TidyOutbox (takeTelegram k t d).vru.outbox :=
  takeValid_tidy k t (d := dropTelegram d) h

@[simp] theorem takeComplete_tidy (frame : List Byte) (h : TidyOutbox d.vru.outbox) :
    TidyOutbox (takeComplete frame d).vru.outbox := by
  unfold takeComplete
  split <;> simp [h]

@[simp] theorem takeModemBytes_tidy (bytes : List Byte) (h : TidyOutbox d.vru.outbox) :
    TidyOutbox (takeModemBytes bytes d).vru.outbox :=
  foldl_tidy (fun f k => finish_tidy (takeComplete_tidy f k)) _ h

end Sys2Proof.Machine
end

section
/-! The commands and the outbox, and the law of the outbox kept by every step: O8. -/

namespace Sys2Proof.Machine

variable {d : Device}

/-! ### Requests -/

theorem judged_tidy {checks : List (Bool × Reason)} {run : Device → Answered}
    (h : TidyOutbox d.vru.outbox) (hr : TidyOutbox (run d).dev.vru.outbox) :
    TidyOutbox (judged checks run d).dev.vru.outbox := by
  unfold judged
  split
  · exact h
  · exact hr

@[simp] theorem configureSilence_tidy (c : CarConfig) (h : TidyOutbox d.vru.outbox) :
    TidyOutbox (configureSilence c d).vru.outbox := by
  unfold configureSilence
  (repeat' split) <;> simp [h]

@[simp] theorem configure_tidy (c : CarConfig) (h : TidyOutbox d.vru.outbox) :
    TidyOutbox (configure c d).vru.outbox := by
  have cleared := linkFlagCleared_tidy (d := { d with
    mdc := { d.mdc with config := some c }, prs := { d.prs with valid := false } }) h
  exact configureSilence_tidy c (refreshModeEntry_tidy (placeAgain_tidy cleared))

@[simp] theorem askConfigure_tidy (c : CarConfig) (h : TidyOutbox d.vru.outbox) :
    TidyOutbox (askConfigure c d).dev.vru.outbox := by
  refine judged_tidy h ?_
  split
  · exact h
  · exact configure_tidy c h

@[simp] theorem askOrientation_tidy (v : Option Dir) (h : TidyOutbox d.vru.outbox) :
    TidyOutbox (askOrientation v d).dev.vru.outbox := judged_tidy h (placeAgain_tidy h)

@[simp] theorem askEnterService_tidy (h : TidyOutbox d.vru.outbox) :
    TidyOutbox (askEnterService d).dev.vru.outbox := judged_tidy h (changeMode_tidy _ h)

@[simp] theorem askEnterStabled_tidy (h : TidyOutbox d.vru.outbox) :
    TidyOutbox (askEnterStabled d).dev.vru.outbox := by
  unfold askEnterStabled
  split
  · exact judged_tidy h (changeMode_tidy _ h)
  · exact judged_tidy h (changeMode_tidy _ h)
  · exact changeMode_tidy _ (d := stopWake d) h
  · exact h
  · exact h

@[simp] theorem askWake_tidy (h : TidyOutbox d.vru.outbox) :
    TidyOutbox (askWake d).dev.vru.outbox := by
  unfold askWake
  split
  · exact changeMode_tidy _ (d := startWake d) h
  · exact h
  · exact h

@[simp] theorem askEnterPreparation_tidy (h : TidyOutbox d.vru.outbox) :
    TidyOutbox (askEnterPreparation d).dev.vru.outbox :=
  judged_tidy h (changeMode_tidy _ (d := stopWake d) h)

@[simp] theorem wakeExpires_tidy (h : TidyOutbox d.vru.outbox) :
    TidyOutbox (wakeExpires d).vru.outbox := by
  unfold wakeExpires
  split
  · exact changeMode_tidy _ (updateRestrictions_tidy (d := stopWake d) h)
  · exact h

@[simp] theorem askRestart_tidy (h : TidyOutbox d.vru.outbox) :
    TidyOutbox (askRestart d).dev.vru.outbox := judged_tidy h h

@[simp] theorem askLoadLine_tidy (l : BitVec 24) (v : BitVec 32) (h : TidyOutbox d.vru.outbox) :
    TidyOutbox (askLoadLine l v d).dev.vru.outbox := judged_tidy h h

@[simp] theorem askLoadSegment_tidy (i : Byte) (r : SegmentBytes) (h : TidyOutbox d.vru.outbox) :
    TidyOutbox (askLoadSegment i r d).dev.vru.outbox := judged_tidy h (by split <;> exact h)

@[simp] theorem askLoadStation_tidy (i : Byte) (r : StationBytes) (h : TidyOutbox d.vru.outbox) :
    TidyOutbox (askLoadStation i r d).dev.vru.outbox := judged_tidy h (by split <;> exact h)

@[simp] theorem askLoadMarker_tidy (i : Byte) (r : MarkerRec) (h : TidyOutbox d.vru.outbox) :
    TidyOutbox (askLoadMarker i r d).dev.vru.outbox := judged_tidy h h

@[simp] theorem askClearLoad_tidy (h : TidyOutbox d.vru.outbox) :
    TidyOutbox (askClearLoad d).dev.vru.outbox := judged_tidy h h

@[simp] theorem handOverCommit_tidy (kept : Bool) (h : TidyOutbox d.vru.outbox) :
    TidyOutbox (handOverCommit kept d).vru.outbox := by
  cases kept with
  | true => exact linkCommit_tidy (placeAgain_tidy h)
  | false => exact linkCommit_tidy (judgeShadow_tidy (placeAgain_tidy (d := forgetPosition d) h))

@[simp] theorem askCommit_tidy (h : TidyOutbox d.vru.outbox) :
    TidyOutbox (askCommit d).dev.vru.outbox := by
  refine judged_tidy h ?_
  split
  · exact h
  · exact handOverCommit_tidy _ h

@[simp] theorem askSegment_tidy (i : Nat) (h : TidyOutbox d.vru.outbox) :
    TidyOutbox (askSegment i d).dev.vru.outbox := by
  unfold askSegment
  (repeat' split) <;> exact h

@[simp] theorem askSetPosition_tidy (x u : Nat) (h : TidyOutbox d.vru.outbox) :
    TidyOutbox (askSetPosition x u d).dev.vru.outbox :=
  judged_tidy h (judgeShadow_tidy (placeAgain_tidy h))

@[simp] theorem query_tidy (k : QueryKind) (p : Byte) (f : Device → Contents)
    (h : TidyOutbox d.vru.outbox) : TidyOutbox (query k p f d).dev.vru.outbox := by
  unfold query
  split
  · rwa [answerPart_dev]
  · rwa [answerPart_dev]

/-! ### Demands, brakes and doors -/

@[simp] theorem askReaction_tidy (n : Nat) (l : Option Level) (m : Option LatchMode)
    (h : TidyOutbox d.vru.outbox) : TidyOutbox (askReaction n l m d).dev.vru.outbox := by
  unfold askReaction
  (repeat' split) <;> simp [h]

@[simp] theorem releaseEntry_tidy (src : Source) (h : TidyOutbox d.vru.outbox) :
    TidyOutbox (releaseEntry src d).vru.outbox := by
  unfold releaseEntry
  dsimp only
  split <;> simp [h]

@[simp] theorem askAck_tidy (n : Nat) (h : TidyOutbox d.vru.outbox) :
    TidyOutbox (askAck n d).dev.vru.outbox := by
  unfold askAck
  (repeat' split) <;> simp [h]

@[simp] theorem askBrakeRequest_tidy (l : Option Level) (n : Nat) (h : TidyOutbox d.vru.outbox) :
    TidyOutbox (askBrakeRequest l n d).dev.vru.outbox := by
  unfold askBrakeRequest
  split
  · exact h
  · exact judged_tidy h (raiseWith_tidy _ _ _ h)

@[simp] theorem feedbackEdge_tidy (ch : Channel) (b : Bool) (h : TidyOutbox d.vru.outbox) :
    TidyOutbox (feedbackEdge ch b d).vru.outbox := by
  refine judgeRelease_tidy ?_
  split <;> simp [h]

@[simp] theorem feedbackExpires_tidy (ch : Channel) (h : TidyOutbox d.vru.outbox) :
    TidyOutbox (feedbackExpires ch d).vru.outbox := by
  unfold feedbackExpires
  dsimp only
  split <;> simp [h]

@[simp] theorem phaseExpires_tidy (h : TidyOutbox d.vru.outbox) :
    TidyOutbox (phaseExpires d).vru.outbox := by
  unfold phaseExpires
  (repeat' split) <;> simp [h]

@[simp] theorem askStopTest_tidy (h : TidyOutbox d.vru.outbox) :
    TidyOutbox (askStopTest d).dev.vru.outbox := by
  unfold askStopTest
  split <;> simp [h]

@[simp] theorem askStartTest_tidy (x : Option (Nat × Nat)) (h : TidyOutbox d.vru.outbox) :
    TidyOutbox (askStartTest x d).dev.vru.outbox :=
  judged_tidy h (rollawayTest_tidy (changeMode_tidy _ (judgeRelease_tidy (beginPhase_tidy _ _ h))))

@[simp] theorem grantRelease_tidy (x : Side) (h : TidyOutbox d.vru.outbox) :
    TidyOutbox (grantRelease x d).vru.outbox := by
  unfold grantRelease
  exact judgeDoorConditions_tidy (eachDoor_tidy _ h)

@[simp] theorem askReleaseDoors_tidy (x : Option Side) (h : TidyOutbox d.vru.outbox) :
    TidyOutbox (askReleaseDoors x d).dev.vru.outbox := judged_tidy h (by split <;> simp [h])

@[simp] theorem closeDoors_tidy (x : SideSel) (h : TidyOutbox d.vru.outbox) :
    TidyOutbox (closeDoors x d).vru.outbox := eachDoor_tidy _ h

@[simp] theorem askCloseDoors_tidy (x : Option SideSel) (h : TidyOutbox d.vru.outbox) :
    TidyOutbox (askCloseDoors x d).dev.vru.outbox := by
  unfold askCloseDoors
  split
  · exact h
  · exact judged_tidy h (closeDoors_tidy _ h)

@[simp] theorem dwellExpires_tidy (n : DoorNo) (h : TidyOutbox d.vru.outbox) :
    TidyOutbox (dwellExpires n d).vru.outbox := by
  unfold dwellExpires
  dsimp only
  split <;> simp [h]

@[simp] theorem isolateUnit_vru (n : DoorNo) (d : Device) : (isolateUnit n d).vru = d.vru := by
  unfold isolateUnit
  dsimp only
  (repeat' split) <;> rfl

@[simp] theorem isolate_tidy (n : DoorNo) (h : TidyOutbox d.vru.outbox) :
    TidyOutbox (isolate n d).vru.outbox := by
  unfold isolate
  split
  · exact h
  · exact judgeDoorConditions_tidy (by simp [h])

@[simp] theorem askIsolate_tidy (n : Nat) (h : TidyOutbox d.vru.outbox) :
    TidyOutbox (askIsolate n d).dev.vru.outbox := by
  unfold askIsolate
  split
  · exact h
  · exact judged_tidy h (isolate_tidy _ h)

@[simp] theorem askDeisolate_tidy (n : Nat) (h : TidyOutbox d.vru.outbox) :
    TidyOutbox (askDeisolate n d).dev.vru.outbox := by
  unfold askDeisolate
  split
  · exact h
  · exact judged_tidy h (judgeDoorConditions_tidy (setDoor_tidy _ _ h))

@[simp] theorem askClearFlags_tidy (n : Nat) (h : TidyOutbox d.vru.outbox) :
    TidyOutbox (askClearFlags n d).dev.vru.outbox := by
  unfold askClearFlags
  (repeat' split) <;> exact h

@[simp] theorem missTrans_tidy (t : Trans) (b : Bool) (h : TidyOutbox d.vru.outbox) :
    TidyOutbox (missTrans t b d).vru.outbox := by
  have missed : TidyOutbox (mapLink t.unit (missedLink b) (endTrans t d)).vru.outbox := h
  unfold missTrans
  dsimp only
  (repeat' split)
  · exact h
  · exact loseDoor_tidy _ missed
  · exact missed

@[simp] theorem reportTrans_tidy (t : Trans) (x : Report) (h : TidyOutbox d.vru.outbox) :
    TidyOutbox (reportTrans t x d).vru.outbox := by
  unfold reportTrans
  dsimp only
  split
  · exact h
  · exact takeReport_tidy _ _ (d := mapLink _ _ (endTrans t d)) h

@[simp] theorem waitTrans_tidy (t : Trans) (h : TidyOutbox d.vru.outbox) :
    TidyOutbox (waitTrans t d).vru.outbox := by
  unfold waitTrans
  (repeat' split) <;> simp [h]

@[simp] theorem takeAnswer_tidy (judge : DoorNo → Answer) (h : TidyOutbox d.vru.outbox) :
    TidyOutbox (takeAnswer judge d).vru.outbox := by
  unfold takeAnswer
  (repeat' split) <;> simp [h]

@[simp] theorem pollEnd_vru (d : Device) : (pollEnd d).vru = d.vru := by
  unfold pollEnd
  (repeat' split) <;> rfl

@[simp] theorem repeatPoll_vru (d : Device) : (repeatPoll d).vru = d.vru := by
  unfold repeatPoll
  (repeat' split) <;> rfl

/-! ### Authority requests and the link -/

@[simp] theorem selectDir_tidy (x : Option Dir) (h : TidyOutbox d.vru.outbox) :
    TidyOutbox (selectDir x d).vru.outbox := by
  unfold selectDir
  split
  · exact h
  · exact judgeShadow_tidy h

@[simp] theorem askSelectDirection_tidy (x : Option (Option Dir)) (h : TidyOutbox d.vru.outbox) :
    TidyOutbox (askSelectDirection x d).dev.vru.outbox := by
  unfold askSelectDirection
  split
  · exact h
  · exact judged_tidy h (selectDir_tidy _ h)

@[simp] theorem askAuthority_tidy (h : TidyOutbox d.vru.outbox) :
    TidyOutbox (askAuthority d).dev.vru.outbox := by
  have queued := queueEntry_tidy (k := .authorityRequest) nofun (requestPayload d) h
  unfold askAuthority
  dsimp only
  (repeat' split)
  · exact h
  · exact queued
  · exact queued

@[simp] theorem askAddRestriction_tidy (i a b l : Nat) (x : Option AppliesTo)
    (h : TidyOutbox d.vru.outbox) : TidyOutbox (askAddRestriction i a b l x d).dev.vru.outbox := by
  unfold askAddRestriction
  split
  · exact h
  · exact h
  · exact judged_tidy h h

@[simp] theorem askLiftRestriction_tidy (i : Nat) (h : TidyOutbox d.vru.outbox) :
    TidyOutbox (askLiftRestriction i d).dev.vru.outbox := by
  unfold askLiftRestriction
  split
  · exact h
  · exact judged_tidy h (judgeRoom_tidy h)

@[simp] theorem askAcceptRelaxations_tidy (h : TidyOutbox d.vru.outbox) :
    TidyOutbox (askAcceptRelaxations d).dev.vru.outbox := updateRestrictions_tidy h

@[simp] theorem linkSilenceExpires_tidy (h : TidyOutbox d.vru.outbox) :
    TidyOutbox (linkSilenceExpires d).vru.outbox := by
  unfold linkSilenceExpires
  split <;> simp [h]

@[simp] theorem hearFrame_tidy (h : TidyOutbox d.vru.outbox) :
    TidyOutbox (hearFrame d).vru.outbox := setCondition_tidy _ _ h

@[simp] theorem validFrame_tidy (h : TidyOutbox d.vru.outbox) :
    TidyOutbox (validFrame d).vru.outbox := hearFrame_tidy (d := dropFrame d) h

/-! ### Edges, markers and samples -/

@[simp] theorem sourceTooth_tidy (w : Bogie) (x : Sense) (h : TidyOutbox d.vru.outbox) :
    TidyOutbox (sourceTooth w x d).vru.outbox := by
  unfold sourceTooth
  dsimp only
  (repeat' split) <;> simp [h]

@[simp] theorem rackTooth_tidy (w : Bogie) (x : Sense) (h : TidyOutbox d.vru.outbox) :
    TidyOutbox (rackTooth w x d).vru.outbox := by
  have meshed := rackToothMesh_tidy w (countEdge_tidy h)
  unfold rackTooth
  dsimp only
  split
  · exact sourceTooth_tidy w x meshed
  · exact meshed

@[simp] theorem meshWindowTooth_tidy (w : Bogie) (x : Sense) (h : TidyOutbox d.vru.outbox) :
    TidyOutbox (meshWindowTooth w x d).vru.outbox := by
  unfold meshWindowTooth
  dsimp only
  split <;> simp [h]

@[simp] theorem calibrationTooth_tidy (h : TidyOutbox d.vru.outbox) :
    TidyOutbox (calibrationTooth d).vru.outbox := by
  unfold calibrationTooth
  (repeat' split) <;> simp [h]

@[simp] theorem pinionTooth_tidy (w : Bogie) (h : TidyOutbox d.vru.outbox) :
    TidyOutbox (pinionTooth w d).vru.outbox := pinionToothMesh_tidy w (countEdge_tidy h)

@[simp] theorem wheelPulse_tidy (x : Sense) (h : TidyOutbox d.vru.outbox) :
    TidyOutbox (wheelPulse x d).vru.outbox := by
  have counted : TidyOutbox (calPulse x (countEdge d)).vru.outbox := by simp [h]
  unfold wheelPulse
  dsimp only
  (repeat' split)
  · exact takeDistance_tidy _ _ _ (missingRack_tidy _ _ (missingRack_tidy _ _ counted))
  · exact missingRack_tidy _ _ (missingRack_tidy _ _ counted)
  · exact counted

@[simp] theorem setByMarker_tidy (c : CarConfig) (f : Dir) (m : MarkerRec) (a b : Bool)
    (h : TidyOutbox d.vru.outbox) : TidyOutbox (setByMarker c f m a b d).vru.outbox :=
  judgeShadow_tidy (placeAgain_tidy h)

@[simp] theorem readMarker_tidy (i : BitVec 16) (h : TidyOutbox d.vru.outbox) :
    TidyOutbox (readMarker i d).vru.outbox := by
  unfold readMarker
  (repeat' split) <;> simp [h]

@[simp] theorem sampleHandle_tidy (n : Nat) (f : Bool) (h : TidyOutbox d.vru.outbox) :
    TidyOutbox (sampleHandle n f d).vru.outbox := by
  unfold sampleHandle
  dsimp only
  split <;> simp [h]

@[simp] theorem judgeAlarm_tidy (h : TidyOutbox d.vru.outbox) :
    TidyOutbox (judgeAlarm d).vru.outbox := bdtEvent_tidy _ h

@[simp] theorem speedSample_tidy (n : Nat) (f : Bool) (h : TidyOutbox d.vru.outbox) :
    TidyOutbox (speedSample n f d).vru.outbox :=
  judgeShadow_tidy (judgeRelease_tidy (refreshBrakes_tidy (judgeAlarm_tidy (sampleHandle_tidy n f
    (evaluate_tidy (rackEntryTest_tidy (countQuiet_tidy (d := sampleSpeed d) h)))))))

/-! ### The supply watch and the resets -/

@[simp] theorem judgeFirstSample_tidy (r : Nat) (h : TidyOutbox d.vru.outbox) :
    TidyOutbox (judgeFirstSample r d).vru.outbox := by
  unfold judgeFirstSample
  dsimp only
  split <;> simp [h]

@[simp] theorem startConditions_tidy (h : TidyOutbox d.vru.outbox) :
    TidyOutbox (startConditions d).vru.outbox :=
  setCondition_tidy _ _ (setCondition_tidy _ _ (setCondition_tidy _ _ h))

@[simp] theorem watchSample_tidy (r : Nat) (h : TidyOutbox d.vru.outbox) :
    TidyOutbox (watchSample r d).vru.outbox := by
  unfold watchSample
  split
  · exact h
  · refine finish_tidy ?_
    dsimp only
    (repeat' split) <;> simp [h]

/-- A cold start begins with an empty outbox (R167). -/
theorem coldStart_tidy (r : Nat) (d : Device) : TidyOutbox (coldStart r d).vru.outbox := by
  have begun : TidyOutbox (startedNotice (coldBlocks d)).vru.outbox := by
    rw [startedNotice, notify_vru]
    exact tidyOutbox_nil
  rw [coldStart_eq]
  exact startConditions_tidy (judgeFirstSample_tidy r begun)

@[simp] theorem takeBatterySample_tidy (r : Nat) (h : TidyOutbox d.vru.outbox) :
    TidyOutbox (takeBatterySample r d).vru.outbox := by
  unfold takeBatterySample
  (repeat' split)
  · exact finish_tidy (coldStart_tidy r d)
  · exact h
  · exact watchSample_tidy r h

@[simp] theorem restartReports_tidy (m : Mode) (h : TidyOutbox d.vru.outbox) :
    TidyOutbox (restartReports m d).vru.outbox := by
  unfold restartReports
  dsimp only
  (repeat' split) <;> simp [h]

/-- A warm restart begins with an empty outbox (R167). -/
theorem warmRestart_tidy (d : Device) : TidyOutbox (warmRestart d).vru.outbox := by
  have begun : TidyOutbox (restartBegun d).vru.outbox := by
    rw [restartBegun, startedNotice, notify_vru]
    exact tidyOutbox_nil
  have reported := restartReports_tidy d.mdc.mode (startConditions_tidy begun)
  rw [warmRestart_eq]
  dsimp only
  split
  · exact linkTo_tidy _ _ reported
  · exact reported

@[simp] theorem restartIfAccepted_tidy (h : TidyOutbox d.vru.outbox) :
    TidyOutbox (restartIfAccepted d).vru.outbox := by
  unfold restartIfAccepted
  (repeat' split) <;> simp [h, warmRestart_tidy]

@[simp] theorem frameEnd_tidy (h : TidyOutbox d.vru.outbox) :
    TidyOutbox (frameEnd d).vru.outbox := by
  unfold frameEnd
  (repeat' split) <;> simp [h, warmRestart_tidy]

/-! ### Frames from bytes -/

theorem requestBody_tidy (kind : Nat) (p : List Byte) (h : TidyOutbox d.vru.outbox) :
    TidyOutbox (requestBody kind p d).dev.vru.outbox := by
  unfold requestBody
  split
  case h_8 | h_9 | h_16 | h_42 | h_43 => exact h
  all_goals simp [h]

theorem answerFrame_tidy (q : Req) {body : Device → Answered}
    (hb : ∀ {x : Device}, TidyOutbox x.vru.outbox → TidyOutbox (body x).dev.vru.outbox)
    (h : TidyOutbox d.vru.outbox) : TidyOutbox (answerFrame q body d).vru.outbox := by
  unfold answerFrame
  (repeat' split)
  · exact h
  · exact hb h
  · exact h

theorem request_tidy (q : Req) {body : Device → Answered}
    (hb : ∀ {x : Device}, TidyOutbox x.vru.outbox → TidyOutbox (body x).dev.vru.outbox)
    (h : TidyOutbox d.vru.outbox) : TidyOutbox (request q body d).vru.outbox :=
  answerFrame_tidy q hb (validFrame_tidy h)

@[simp] theorem takeLinkBytes_tidy (bytes : List Byte) (h : TidyOutbox d.vru.outbox) :
    TidyOutbox (takeLinkBytes bytes d).vru.outbox :=
  foldl_tidy (f := fun x f => finish (takeFrame f x)) (fun _ k =>
    finish_tidy (answerFrame_tidy _ (requestBody_tidy _ _) (hearFrame_tidy k))) _
    (d := keepAssembly bytes d) h

/-! ### The command table -/

@[simp] theorem withContact_vru (ch : Channel) (b : Bool) (d : Device) :
    (withContact ch b d).vru = d.vru := by
  cases ch <;> rfl

/-- A row of the command table that runs its operation while the part is up. -/
theorem tidy_of_up {f : Device → Device} {e : Device} {s t : State} (line : TidyOutbox e.vru.outbox)
    (hf : TidyOutbox (f e).vru.outbox) (ht : become s (whenUp f e) = .next t) :
    TidyOutbox t.dev.vru.outbox := by
  obtain rfl := Host.Outcome.next.inj ht
  unfold whenUp
  split
  · exact line
  · exact finish_tidy hf

/-- Every command leaves the outbox tidy: POWER_ON leaves it empty, and each other row's operation has its
lemma above. -/
theorem exec_tidy (c : Instr) (s t : State) (h : TidyOutbox s.dev.vru.outbox)
    (ht : exec c s = .next t) : TidyOutbox t.dev.vru.outbox := by
  cases c with
  | powerOn =>
    obtain rfl := Host.Outcome.next.inj ht
    exact tidyOutbox_nil
  | batterySample r =>
    obtain rfl := Host.Outcome.next.inj ht
    exact takeBatterySample_tidy r h
  | telegramAssemblyTimeout => exact tidy_of_up (f := dropTelegram) h h ht
  | clearResetRecord q => exact tidy_of_up h (request_tidy q (body := askClearResetRecord) id h) ht
  | unknownKind tag kind =>
    exact tidy_of_up h (request_tidy _ (body := refuse .unknownKind) id h) ht
  | getResetRecord | getProfileInfo | getStatus => exact tidy_of_up h (request_tidy _ id h) ht
  | configureCar | setOrientation | enterService | enterStabled | wake | enterPreparation | restart
  | loadLine | loadSegment | loadStation | loadMarker | clearLoad | commitProfile | getSegment
  | setPosition | getOdometry | getSupervision | setReaction | ackDemand | brakeRequest | getDemands
  | startBrakeTest | stopBrakeTest | getTest | releaseDoors | closeDoors | isolateDoor | deisolateDoor
  | getDoors | clearDoorFlags | selectDirection | requestAuthority | getAuthority | addRestriction
  | liftRestriction | acceptRelaxations | getRestrictions =>
    exact tidy_of_up h (request_tidy _ (fun k => by simp [k]) h) ht
  | getRadio q p b =>
    exact tidy_of_up (e := withCarrier b s.dev) h (request_tidy _ (fun k => by simp [k]) h) ht
  | plungerEdge b =>
    exact tidy_of_up (e := withPlunger b s.dev) h (setCondition_tidy _ _ h) ht
  | electricBrakeAvailableEdge b =>
    exact tidy_of_up (e := withEdbLine b s.dev) h (refreshBrakes_tidy h) ht
  | feedbackEdge ch b =>
    have line : TidyOutbox (withContact ch b s.dev).vru.outbox := by rwa [withContact_vru]
    exact tidy_of_up line (feedbackEdge_tidy ch b line) ht
  | answerWindowClose => exact tidy_of_up (f := windowCloses) h (takeAnswer_tidy _ h) ht
  | frameAssemblyTimeout => exact tidy_of_up (f := dropFrame) h h ht
  | _ =>
    refine tidy_of_up h ?_ ht
    simp [h]

/-- Settles O8: a step is a tick, which leaves the outbox alone, or a command. -/
theorem outboxLawKept : Obligations.OutboxLawKept := by
  intro s t h ht
  unfold step at ht
  split at ht
  · obtain rfl := Host.Outcome.next.inj ht
    exact h
  next c rest _ =>
    rw [outboxLaw_iff] at h ⊢
    exact exec_tidy c { s with pending := rest } t h ht

end Sys2Proof.Machine
end

section
/-! A downlink telegram that is taken, from its address to the unit that acts on it (R155, R157 to R160), with
the events of the radio port and of the authority: O54, O55 and O56. -/

namespace Sys2Proof.Machine

variable {d : Device} {s : State} {t : Telegram}

/-! ### A telegram taken (R155, R157, R158) -/

/-- A telegram heard: nothing is left in assembly, and the silence timer restarts in ONLINE. -/
def Device.heard (d : Device) : Device := restartSilence (dropTelegram d)

@[simp] theorem heard_link (d : Device) : d.heard.vru.link = d.vru.link := by
  unfold Device.heard restartSilence
  split <;> rfl

@[simp] theorem heard_dupWindow (d : Device) : d.heard.vru.dupWindow = d.vru.dupWindow := by
  unfold Device.heard restartSilence
  split <;> rfl

@[simp] theorem heard_aru (d : Device) : d.heard.aru = d.aru := by
  unfold Device.heard restartSilence
  split <;> rfl

theorem takeTelegram_astray (k : DownKind) (astray : addressed d t = false) :
    takeTelegram k t d = dropTelegram d := if_neg (Bool.eq_false_iff.mp astray)

theorem takeTelegram_through {k : DownKind} (mine : addressed d t = true)
    (through : letThrough d.vru.link k = true) : takeTelegram k t d = actOn k t d.heard := by
  rw [← heard_link] at through
  exact (if_pos mine).trans (if_pos through)

/-- A telegram of an unknown kind has been heard, and nothing more (R158). -/
theorem takeTelegram_unknown (mine : addressed d t = true) :
    takeTelegram .unknown t d = d.heard := by
  refine (if_pos mine).trans ?_
  dsimp only
  split <;> rfl

theorem letThrough_always {k : DownKind} (l : LinkState) (always : k.takenAlways = true) :
    letThrough l k = true := by rw [letThrough, always, Bool.or_true]

/-! ### The telegrams of the radio itself (R152, R162, R164) -/

/-- The valley accepts the car's profile, or refuses it. -/
theorem takeTelegram_logonAccept {b : Byte} {d' : Device} (mine : addressed d t = true)
    (payload : t.payload = [b]) (answer : logonAnswer b d.heard = d') :
    takeTelegram .logonAccept t d = d' := by
  rw [takeTelegram_through mine (letThrough_always _ rfl), actOn, payload]
  exact answer

theorem logonAnswer_accepted (waits : d.vru.link = .loggingOn ∨ d.vru.link = .lost) :
    logonAnswer 0#8 d = linkTo .online .logonOk d := (if_pos waits).trans (if_pos rfl)

theorem logonAnswer_refused (waits : d.vru.link = .loggingOn ∨ d.vru.link = .lost) :
    logonAnswer 1#8 d = linkTo .refused .profileMismatch d :=
  (if_pos waits).trans ((if_neg (by decide)).trans (if_pos rfl))

theorem takeTelegram_uplinkAck (mine : addressed d t = true) (online : d.vru.link = .online)
    (fits : t.payload.length = 3) : takeTelegram .uplinkAck t d =
      (ackedNumbers t.payload).foldl (fun x n => acknowledge n x) d.heard := by
  rw [takeTelegram_through mine (by rw [online]; rfl)]
  exact if_pos fits

theorem takeTelegram_poll (mine : addressed d t = true) (online : d.vru.link = .online)
    (empty : t.payload = []) : takeTelegram .poll t d = callPosition d.heard := by
  rw [takeTelegram_through mine (by rw [online]; rfl)]
  exact if_pos (by rw [empty]; rfl)

/-! ### The events of the radio port (R154, R155, R162, R165, R166) -/

theorem reportExpires_running (runs : d.vru.reportTimer ≠ none) : reportExpires d = callPosition
    { d with vru := { d.vru with reportTimer := reportIntervalTimer d } } :=
  if_pos (Option.isSome_iff_ne_none.mpr runs)

theorem silenceExpires_running (online : d.vru.link = .online) (runs : d.vru.silence ≠ none) :
    silenceExpires d = linkTo .lost .silence d :=
  if_pos ⟨online, Option.isSome_iff_ne_none.mpr runs⟩

theorem ackTimeout_running {n : Byte} {e : OutEntry}
    (found : d.vru.outbox.find? (fun x => x.seq == n) = some e) (runs : e.timeout ≠ none) :
    ackTimeout n d =
      if e.sendCount < 3 then mapEntry n (fun x => { x with due := true, timeout := none }) d
      else notify (.reportUndelivered e.seq e.kind) (dropEntry n d) := by
  rw [ackTimeout, found]
  exact if_pos (Option.isSome_iff_ne_none.mpr runs)

theorem telegramEnd_ack {bytes : List Byte} (sending : d.vru.tx = some ⟨bytes, none⟩) :
    telegramEnd d = { d with vru := { d.vru with tx := none } } := by
  simp only [telegramEnd, sending]

/-- The end of an entry's sending starts its acknowledgement timeout in ONLINE (R165). -/
theorem telegramEnd_entry {bytes : List Byte} {n : Byte}
    (sending : d.vru.tx = some ⟨bytes, some n⟩) : telegramEnd d =
      mapEntry n (fun x => { x with lastSend := some d.now, timeout :=
        if d.vru.link = .online ∧ x.kind ≠ .logon then ackTimer d else none })
        { d with vru := { d.vru with tx := none } } := by
  simp only [telegramEnd, sending]

/-- Settles O54: each event of the port answers its operation's next state, and a telegram is taken by its
address, its link state and its kind. -/
theorem radioEventsComplete : Obligations.RadioEventsComplete := by
  intro s up
  refine ⟨fun runs => ?_, fun online runs => ?_, fun runs => ?_, fun n e found runs => ?_,
    fun j sending => ?_, fun bytes => ?_, ?_, fun t mine => ⟨fun k unknown => ?_, fun waits =>
      ⟨fun payload => ?_, fun payload => ?_⟩, fun online fits => ?_, fun online empty => ?_⟩,
    fun t astray i row => ?_⟩
  · exact become_up up (if_pos (Option.isSome_iff_ne_none.mpr runs))
  · exact become_up up (silenceExpires_running online runs)
  · exact become_up up (reportExpires_running runs)
  · exact become_up up (ackTimeout_running found runs)
  · obtain ⟨bytes, entry⟩ := j
    cases entry with
    | none => exact become_up up (telegramEnd_ack sending)
    | some n => exact become_up up (telegramEnd_entry sending)
  · exact become_up up rfl
  · exact become_up (f := dropTelegram) up rfl
  · refine become_up (f := takeTelegram (downKindOf k) t) up ?_
    rw [unknown]
    exact takeTelegram_unknown mine
  · exact become_up up (takeTelegram_logonAccept mine payload
      (logonAnswer_accepted (by rwa [heard_link])))
  · exact become_up up (takeTelegram_logonAccept mine payload
      (logonAnswer_refused (by rwa [heard_link])))
  · exact become_up up (takeTelegram_uplinkAck mine online fits)
  · exact become_up up (takeTelegram_poll mine online empty)
  · rcases row with rfl | rfl | rfl
    all_goals exact become_up up (takeTelegram_astray _ astray)

/-! ### The telegrams that are acknowledged (R159, R160) -/

/-- The kinds of the Authority and Restriction Unit with their commands. -/
def acknowledgedRows (t : Telegram) : List (DownKind × Instr) :=
  [(.authorityGrant, .authorityGrant t), (.authorityShorten, .authorityShorten t),
    (.authorityWithdraw, .authorityWithdraw t), (.restrictionSet, .restrictionSet t),
    (.restrictionLift, .restrictionLift t), (.stopOrder, .stopOrder t),
    (.stopRelease, Instr.stopRelease t)]

/-- Every such command takes its telegram, and every such kind is acted on by R159 and R160. -/
theorem acknowledgedRows_taken {k : DownKind} {c : Instr} (row : (k, c) ∈ acknowledgedRows t) :
    (∀ s, exec c s = become s (whenUp (takeTelegram k t) s.dev))
      ∧ ∀ d, actOn k t d = takeAcknowledged k t d := by
  simp only [acknowledgedRows, List.mem_cons, Prod.mk.injEq, List.not_mem_nil, or_false] at row
  rcases row with h | h | h | h | h | h | h
  all_goals
    obtain ⟨rfl, rfl⟩ := h
    exact ⟨fun _ => rfl, fun _ => rfl⟩

theorem exec_acknowledged {k : DownKind} {c : Instr} (row : (k, c) ∈ acknowledgedRows t)
    (up : s.dev.bau.watch ≠ .cutoff) (mine : addressed s.dev t = true)
    (through : letThrough s.dev.vru.link k = true) :
    exec c s = .next (s.put (finish (takeAcknowledged k t s.dev.heard))) := by
  obtain ⟨taken, acted⟩ := acknowledgedRows_taken row
  rw [taken]
  exact become_up up ((takeTelegram_through mine through).trans (acted _))

theorem takeAcknowledged_misfit {k : DownKind} (misfit : k.length ≠ some t.payload.length) :
    takeAcknowledged k t d = pushAck t.seq .badTelegram d := if_pos misfit

theorem takeAcknowledged_again {k : DownKind} {w : Byte × Result}
    (fits : k.length = some t.payload.length)
    (found : d.vru.dupWindow.find? (fun w => w.1 == t.seq) = some w) :
    takeAcknowledged k t d = pushAck t.seq w.2 d := by
  rw [takeAcknowledged, if_neg (not_not.mpr fits), found]

theorem takeAcknowledged_new {k : DownKind} (fits : k.length = some t.payload.length)
    (new : ∀ w ∈ d.vru.dupWindow, w.1 ≠ t.seq) :
    takeAcknowledged k t d = pushAck t.seq (handToAru k t.payload d).2
      (enterWindow t.seq (handToAru k t.payload d).2 (handToAru k t.payload d).1) := by
  have absent : d.vru.dupWindow.find? (fun w => w.1 == t.seq) = none :=
    List.find?_eq_none.mpr fun w mem => by simpa using new w mem
  rw [takeAcknowledged, if_neg (not_not.mpr fits), absent]

theorem radioPump_dupWindow (d : Device) : (radioPump d).vru.dupWindow = d.vru.dupWindow := by
  unfold radioPump
  (repeat' split) <;> rfl

theorem finish_dupWindow (d : Device) : (finish d).vru.dupWindow = d.vru.dupWindow := by
  unfold finish
  rw [(linkPump_keeps_lines _).2.2, radioPump_dupWindow, busPump_vru]

/-- An ACK queued and the command closed leave the authority unit and the duplicate window alone. -/
theorem finish_pushAck_keeps (n : Byte) (r : Result) (d : Device) :
    (finish (pushAck n r d)).aru = d.aru
      ∧ (finish (pushAck n r d)).vru.dupWindow = d.vru.dupWindow := by
  have pushed : (pushAck n r d).aru = d.aru ∧ (pushAck n r d).vru.dupWindow = d.vru.dupWindow := by
    unfold pushAck
    split
    · exact ⟨rfl, rfl⟩
    · exact ⟨rfl, rfl⟩
  obtain ⟨-, -, -, -, -, -, -, aru⟩ := finish_blocks (pushAck n r d)
  exact ⟨aru.trans pushed.1, (finish_dupWindow _).trans pushed.2⟩

/-- Settles O55: a duplicate and a misfit are answered with an ACK alone. -/
theorem duplicateIsNotHandedOver : Obligations.DuplicateIsNotHandedOver := by
  intro t s k c row up mine through
  have answered : ∀ r, takeAcknowledged k t s.dev.heard = pushAck t.seq r s.dev.heard →
      exec c s = .next (s.put (finish (pushAck t.seq r s.dev.heard)))
        ∧ (finish (pushAck t.seq r s.dev.heard)).aru = s.dev.aru
        ∧ (finish (pushAck t.seq r s.dev.heard)).vru.dupWindow = s.dev.vru.dupWindow := by
    intro r pushed
    obtain ⟨aru, dupWindow⟩ := finish_pushAck_keeps t.seq r s.dev.heard
    refine ⟨?_, aru.trans (heard_aru _), dupWindow.trans (heard_dupWindow _)⟩
    rw [exec_acknowledged row up mine through, pushed]
  exact ⟨fun w fits found => answered w.2 (takeAcknowledged_again fits (by rwa [heard_dupWindow])),
    fun misfit => answered _ (takeAcknowledged_misfit misfit)⟩

/-! ### The authority (R171 to R174) -/

theorem rollawayTest_aru (d : Device) : (rollawayTest d).aru = d.aru := (rollawayTest_keeps d).aru

theorem setAuthority_aru (a : Option Authority) (x : Option Timer) (d : Device) :
    (setAuthority a x d).aru = { d.aru with auth := a, timer := x } := rollawayTest_aru _

/-- SHORTEN takes the nearer of the two ends (R173). -/
theorem takeShorten_auth {a : Authority} (p : List Byte) (held : d.aru.auth = some a) :
    (takeShorten p d).1.aru.auth =
      some { a with stop := nearerEnd a.dir a.stop (field p 0 3) } := by
  rw [takeShorten, held]

/-- The nearer end is one of the two, and never beyond the first. -/
theorem nearerEnd_cases (dir : Dir) (a b : Nat) :
    (nearerEnd dir a b = a ∨ nearerEnd dir a b = b) ∧ (dir = .up → nearerEnd dir a b ≤ a)
      ∧ (dir = .down → a ≤ nearerEnd dir a b) := by
  cases dir with
  | up => exact ⟨min_choice a b, fun _ => min_le_left a b, nofun⟩
  | down => exact ⟨max_choice a b, nofun, fun _ => le_max_left a b⟩

theorem withdrawAuthority_standstill (still : d.odu.standstill = true) :
    (withdrawAuthority d).aru.auth = none := by
  unfold withdrawAuthority
  split
  next absent => exact absent
  next => rw [if_pos still, setAuthority_aru]

/-! ### The five checks of a grant (R172) -/

theorem grantOf_valid (p : List Byte) : (grantOf p).valid = true ↔
    field p 0 2 ≠ 0 ∧ dirOfByte (p.getD 2 0#8) ≠ none
      ∧ (field p 6 2 = 0 ∨ (10 ≤ field p 6 2 ∧ field p 6 2 ≤ 3600)) := by
  by_cases never : field p 6 2 = 0
  · simp [Grant.valid, grantOf, never, Option.isSome_iff_ne_none]
  · simp [Grant.valid, grantOf, never, inRange, Option.isSome_iff_ne_none, and_assoc]

theorem ahead_neg_iff (x : Dir) (f : Int) (stop : Nat) : ahead x f stop < 0 ↔
    (x = .up ∧ (stop : Int) < f) ∨ (x = .down ∧ f < (stop : Int)) := by
  cases x <;> simp [ahead]

theorem takeGrant_invalid {p : List Byte} (invalid : (grantOf p).valid ≠ true) :
    takeGrant p d = (d, .invalid) := by
  unfold takeGrant
  dsimp only
  split
  next valid _ => exact absurd valid invalid
  next => rfl

section
variable {p : List Byte} {x : Dir} {f : Int} (valid : (grantOf p).valid = true)
  (dir : (grantOf p).dir = some x)
include valid dir

theorem takeGrant_wrongDirection (other : d.aru.selDir ≠ some x) :
    takeGrant p d = (d, .wrongDirection) := by
  simp only [takeGrant, valid, dir]
  exact if_pos other

theorem takeGrant_noPosition (selected : d.aru.selDir = some x) (unplaced : frontIn d x = none) :
    takeGrant p d = (d, .noPosition) := by
  simp only [takeGrant, valid, dir, unplaced]
  exact if_neg (not_not.mpr selected)

theorem takeGrant_behindCar (selected : d.aru.selDir = some x) (placed : frontIn d x = some f)
    (behind : ahead x f (grantOf p).stop < 0) : takeGrant p d = (d, .behindCar) := by
  simp only [takeGrant, valid, dir, placed]
  exact (if_neg (not_not.mpr selected)).trans (if_pos behind)

theorem takeGrant_applied (selected : d.aru.selDir = some x) (placed : frontIn d x = some f)
    (before : ¬ ahead x f (grantOf p).stop < 0) :
    (takeGrant p d).2 = .applied ∧ (takeGrant p d).1.aru = { d.aru with
      auth := some ⟨(grantOf p).identity, x, (grantOf p).stop, (grantOf p).expiry, false⟩
      timer := (grantOf p).expiry.map (fun e => ⟨d.now, Config.sec e⟩) } := by
  have taken : takeGrant p d = (setAuthority
      (some ⟨(grantOf p).identity, x, (grantOf p).stop, (grantOf p).expiry, false⟩)
      ((grantOf p).expiry.map (fun e => ⟨d.now, Config.sec e⟩)) d, .applied) := by
    simp only [takeGrant, valid, dir, placed]
    exact (if_neg (not_not.mpr selected)).trans (if_neg before)
  rw [taken]
  exact ⟨rfl, setAuthority_aru _ _ d⟩

end

/-- A grant's timer runs for its expiry, where it has one (R171). -/
theorem grantOf_timer (p : List Byte) (now : Nat) :
    (grantOf p).expiry.map (fun e => (⟨now, Config.sec e⟩ : Timer)) =
      if field p 6 2 = 0 then none else some ⟨now, field p 6 2 * 1000000⟩ := by
  unfold grantOf
  dsimp only
  split <;> rfl

/-- Settles O56: a new telegram goes to its unit whole, an expiry withdraws, and a grant meets its checks
one by one. -/
theorem authorityTelegramsComplete : Obligations.AuthorityTelegramsComplete := by
  refine ⟨fun t s k c row up mine through fits new => ?_, fun s up => ⟨fun runs => ?_, fun stopped => ?_⟩,
    fun p d a held => ⟨_, takeShorten_auth p held, rfl, rfl, nearerEnd_cases _ _ _⟩,
    fun d still => withdrawAuthority_standstill still, fun p d => ⟨fun invalid => ?_,
      fun x valid dir => ⟨fun other => ?_, fun selected unplaced => ?_, fun f selected placed =>
        ⟨fun behind => ?_, fun before => ?_⟩⟩⟩⟩
  · rw [exec_acknowledged row up mine through,
      takeAcknowledged_new fits (by rwa [heard_dupWindow]), Device.heard]
  · exact become_up up (if_pos (Option.isSome_iff_ne_none.mpr runs))
  · exact become_up up (if_neg (by rw [stopped]; nofun))
  · exact takeGrant_invalid (mt (grantOf_valid p).mp invalid)
  · exact takeGrant_wrongDirection ((grantOf_valid p).mpr valid) dir other
  · exact takeGrant_noPosition ((grantOf_valid p).mpr valid) dir selected unplaced
  · exact takeGrant_behindCar ((grantOf_valid p).mpr valid) dir selected placed
      ((ahead_neg_iff _ _ _).mpr behind)
  · rw [← grantOf_timer]
    exact takeGrant_applied ((grantOf_valid p).mpr valid) dir selected placed
      (mt (ahead_neg_iff _ _ _).mp before)

end Sys2Proof.Machine
end

section
/-! The restriction sets: what an entry into the current set, a staged change and the update event keep of
them (R175 to R179, R182); and that a change from the valley never relaxes at once: O57. -/

namespace Sys2Proof.Machine

/-! ### The current entry of an identity -/

theorem mem_of_restrictionFor {l : List Restriction} {i : Nat} {r : Restriction}
    (h : restrictionFor l i = some r) : r ∈ l ∧ r.identity = i :=
  ⟨List.mem_of_find?_eq_some h, by simpa using List.find?_some h⟩

theorem restrictionFor_cons_of_ne {x : Restriction} {i : Nat} (xs : List Restriction)
    (h : x.identity ≠ i) : restrictionFor (x :: xs) i = restrictionFor xs i :=
  List.find?_cons_of_neg (by simpa using h)

/-! ### An entry into the current set (R175, R182) -/

theorem mem_putRestriction_self (r : Restriction) (l : List Restriction) :
    r ∈ putRestriction r l := by
  induction l with
  | nil => exact List.mem_singleton_self r
  | cons x xs ih =>
    unfold putRestriction
    split
    · exact List.mem_cons_self
    · split
      · exact List.mem_cons_self
      · exact List.mem_cons_of_mem x ih

/-- An entry put into a set stands there with the rest, but for the entry of its identity. -/
theorem mem_putRestriction_or {r x : Restriction} {l : List Restriction} (h : x ∈ l) :
    x ∈ putRestriction r l ∨ restrictionFor l r.identity = some x := by
  induction l with
  | nil => cases h
  | cons y ys ih =>
    unfold putRestriction
    split
    · exact .inl (List.mem_cons_of_mem r h)
    · split
      next same =>
        obtain rfl | h := List.mem_cons.mp h
        · exact .inr (List.find?_cons_of_pos (by simp [same]))
        · exact .inl (List.mem_cons_of_mem r h)
      next other =>
        rw [restrictionFor_cons_of_ne ys (Ne.symm other)]
        obtain rfl | h := List.mem_cons.mp h
        · exact .inl List.mem_cons_self
        · exact (ih h).imp (List.mem_cons_of_mem y) id

/-- Nothing else stands there. -/
theorem mem_putRestriction {r x : Restriction} {l : List Restriction} (h : x ∈ putRestriction r l) :
    x = r ∨ x ∈ l := by
  induction l with
  | nil => exact .inl (List.mem_singleton.mp h)
  | cons y ys ih =>
    unfold putRestriction at h
    split at h
    · exact List.mem_cons.mp h
    · split at h
      · exact (List.mem_cons.mp h).imp_right (List.mem_cons_of_mem y)
      · obtain rfl | h := List.mem_cons.mp h
        · exact .inr List.mem_cons_self
        · exact (ih h).imp_right (List.mem_cons_of_mem y)

theorem length_putRestriction_le (r : Restriction) (l : List Restriction) :
    (putRestriction r l).length ≤ l.length + 1 := by
  induction l with
  | nil => exact le_rfl
  | cons x xs ih =>
    unfold putRestriction
    (repeat' split) <;> simp [ih]

/-! ### Tidy sets -/

/-- The law of the current set, as it speaks of the entries alone (R175, R182). -/
def TidyCurrent (l : List Restriction) : Prop :=
  l.length ≤ setRoom ∧ (l.map (·.identity)).Pairwise (· < ·)

/-- The law of the staged changes, as it speaks of the changes alone (R175). -/
def TidyStaged (l : List Staged) : Prop := l.length ≤ setRoom ∧ (l.map Staged.identity).Nodup

theorem setsLaw_iff (d : Device) :
    SetsLaw d ↔ TidyCurrent d.aru.current ∧ TidyStaged d.aru.staged := and_assoc.symm

theorem tidyCurrent_nil : TidyCurrent [] := ⟨Nat.zero_le _, .nil⟩
theorem tidyStaged_nil : TidyStaged [] := ⟨Nat.zero_le _, .nil⟩

theorem TidyCurrent.sublist {l m : List Restriction} (h : TidyCurrent l) (sub : m.Sublist l) :
    TidyCurrent m :=
  ⟨sub.length_le.trans h.1, h.2.sublist (sub.map _)⟩

theorem TidyStaged.sublist {l m : List Staged} (h : TidyStaged l) (sub : m.Sublist l) :
    TidyStaged m :=
  ⟨sub.length_le.trans h.1, h.2.sublist (sub.map _)⟩

/-- Entries in identity order, one more among them. -/
theorem putRestriction_ordered (r : Restriction) {l : List Restriction}
    (h : (l.map (·.identity)).Pairwise (· < ·)) :
    ((putRestriction r l).map (·.identity)).Pairwise (· < ·) := by
  rw [List.pairwise_map] at h ⊢
  induction l with
  | nil => exact List.pairwise_singleton _ r
  | cons x xs ih =>
    obtain ⟨least, rest⟩ := List.pairwise_cons.mp h
    unfold putRestriction
    split
    next before =>
      refine .cons (fun y hy => ?_) h
      obtain rfl | hy := List.mem_cons.mp hy
      · exact before
      · exact before.trans (least y hy)
    next notBefore =>
      split
      next same => exact .cons (fun y hy => same ▸ least y hy) rest
      next other =>
        refine .cons (fun y hy => ?_) (ih rest)
        obtain rfl | hy := mem_putRestriction hy
        · exact lt_of_le_of_ne (not_lt.mp notBefore) (Ne.symm other)
        · exact least y hy

/-- In identity order an entry takes the place of the one of its identity, where one stands. -/
theorem length_putRestriction_of_present {r old : Restriction} {l : List Restriction}
    (h : (l.map (·.identity)).Pairwise (· < ·)) (present : restrictionFor l r.identity = some old) :
    (putRestriction r l).length = l.length := by
  rw [List.pairwise_map] at h
  induction l with
  | nil => cases present
  | cons x xs ih =>
    obtain ⟨least, rest⟩ := List.pairwise_cons.mp h
    unfold putRestriction
    split
    next before =>
      obtain ⟨mem, same⟩ := mem_of_restrictionFor present
      obtain rfl | mem := List.mem_cons.mp mem
      · omega
      · have := least old mem
        omega
    next =>
      split
      · rfl
      next other =>
        rw [restrictionFor_cons_of_ne xs (Ne.symm other)] at present
        rw [List.length_cons, List.length_cons, ih rest present]

/-- An entry put into room, or in place of another. -/
theorem TidyCurrent.put {r : Restriction} {l : List Restriction} (h : TidyCurrent l)
    (fits : (restrictionFor l r.identity).isSome = true ∨ l.length < setRoom) :
    TidyCurrent (putRestriction r l) := by
  obtain ⟨room, ordered⟩ := h
  refine ⟨?_, putRestriction_ordered r ordered⟩
  obtain present | room := fits
  · obtain ⟨old, present⟩ := Option.isSome_iff_exists.mp present
    rwa [length_putRestriction_of_present ordered present]
  · exact (length_putRestriction_le r l).trans room

theorem TidyStaged.unstage (i : Nat) {l : List Staged} (h : TidyStaged l) :
    TidyStaged (unstage i l) := h.sublist List.filter_sublist

/-- A change staged into room, behind those of other identities. -/
theorem TidyStaged.append {s : Staged} {l : List Staged} (h : TidyStaged l)
    (room : (Machine.unstage s.identity l).length < setRoom) :
    TidyStaged (Machine.unstage s.identity l ++ [s]) := by
  refine ⟨by simpa using room, ?_⟩
  rw [List.map_append, List.map_singleton, List.nodup_append_comm, List.singleton_append,
    List.nodup_cons]
  refine ⟨fun mem => ?_, (h.unstage _).2⟩
  obtain ⟨x, hx, same⟩ := List.mem_map.mp mem
  simp [Machine.unstage, same] at hx

/-- A staged change applied replaces an entry of its identity or takes it out (R179). -/
theorem TidyCurrent.applyStaged {l : List Restriction} (h : TidyCurrent l) (s : Staged) :
    TidyCurrent (applyStaged l s) := by
  cases s with
  | final r =>
    obtain ⟨room, ordered⟩ := h
    have identities : (l.map fun x => if x.identity = r.identity then r else x).map (·.identity)
        = l.map (·.identity) := by
      rw [List.map_map]
      refine List.map_congr_left fun x _ => ?_
      simp only [Function.comp_apply]
      split
      next same => exact same.symm
      · rfl
    refine ⟨by rwa [Machine.applyStaged, List.length_map], ?_⟩
    rwa [Machine.applyStaged, identities]
  | lift i => exact h.sublist List.filter_sublist

theorem TidyCurrent.applyAll {l : List Restriction} (h : TidyCurrent l) (staged : List Staged) :
    TidyCurrent (staged.foldl Machine.applyStaged l) := by
  induction staged generalizing l with
  | nil => exact h
  | cons s rest ih => exact ih (h.applyStaged s)

/-! ### What the operations write (R176 to R179) -/

theorem stage_cases (s : Staged) (ok : Result) (d : Device) :
    ((unstage s.identity d.aru.staged).length < setRoom ∧ (stage s ok d).1 = { d with aru :=
        { d.aru with staged := unstage s.identity d.aru.staged ++ [s] } })
      ∨ (stage s ok d).1 = d := by
  unfold stage
  dsimp only
  split
  next room => exact .inl ⟨room, rfl⟩
  next => exact .inr rfl

theorem stage_current (s : Staged) (ok : Result) (d : Device) :
    (stage s ok d).1.aru.current = d.aru.current := by
  obtain ⟨-, staged⟩ | same := stage_cases s ok d
  · rw [staged]
  · rw [same]

@[simp] theorem notify_aru (n : Notice) (d : Device) : (notify n d).aru = d.aru :=
  (notify_keeps n d).aru

@[simp] theorem setCondition_aru (src : Source) (b : Bool) (d : Device) :
    (setCondition src b d).aru = d.aru := (setCondition_keeps src b d).aru

@[simp] theorem noticePending_aru (b : Bool) (x : Device × Result) :
    (noticePending b x).1.aru = x.1.aru := by
  unfold noticePending
  split <;> simp

@[simp] theorem judgeRoom_aru (d : Device) : (judgeRoom d).aru = d.aru := by
  unfold judgeRoom
  split <;> simp

theorem updateRestrictions_aru (d : Device) : (updateRestrictions d).aru =
    { d.aru with current := d.aru.staged.foldl applyStaged d.aru.current, staged := [] } :=
  judgeRoom_aru _

/-- A LIFT leaves the current set alone until the update event (R177). -/
theorem takeLift_current (p : List Byte) (d : Device) :
    (takeLift p d).1.aru.current = d.aru.current := by
  unfold takeLift
  dsimp only
  split
  · split
    · rw [noticePending_aru, stage_current]
    · rfl
  · rfl

/-- What a RESTRICTION_SET leaves of the current set (R176): all of it, or with a new entry in room, a
tightening, or an interim entry. -/
inductive SetTo (l : List Restriction) : List Restriction → Prop
  | same : SetTo l l
  | new (r : Restriction) (absent : restrictionFor l r.identity = none)
      (room : l.length < setRoom) : SetTo l (putRestriction r l)
  | tighter (r old : Restriction) (present : restrictionFor l r.identity = some old)
      (tightening : tightens r old = true) : SetTo l (putRestriction r l)
  | interim (r old : Restriction) (present : restrictionFor l r.identity = some old) :
      SetTo l (putRestriction (interimOf r old) l)

theorem takeRestriction_current (p : List Byte) (d : Device) :
    SetTo d.aru.current (takeRestriction p d).1.aru.current := by
  unfold takeRestriction
  split
  · exact .same
  next r _ =>
    rw [noticePending_aru]
    split
    next absent =>
      split
      next room => exact .new r absent room
      next =>
        rw [setCondition_aru]
        exact .same
    next old present =>
      split
      next tightening => exact .tighter r old present tightening
      next =>
        split
        · rw [stage_current]
          exact .same
        · rw [stage_current]
          exact .interim r old present

/-! ### No relaxation at once (R176, R177) -/

/-- A restriction holds a direction of a chainage to a speed. -/
def Restriction.holds (r : Restriction) (x v : Nat) (dir : Dir) : Prop :=
  r.start ≤ x ∧ x ≤ r.stop ∧ r.limit ≤ v ∧ r.appliesTo dir = true

theorem covers_iff {a b : AppliesTo} : AppliesTo.covers a b = true ↔ a = .both ∨ a = b := by
  simp [AppliesTo.covers]

/-- A tightening holds whatever the entry it replaces holds. -/
theorem Restriction.holds.of_tightens {r old : Restriction} {x v : Nat} {dir : Dir}
    (h : old.holds x v dir) (tightening : tightens r old = true) : r.holds x v dir := by
  obtain ⟨start, stop, limit, applies⟩ := h
  simp only [tightens, Bool.and_eq_true, decide_eq_true_eq, covers_iff] at tightening
  obtain ⟨⟨⟨start', stop'⟩, limit'⟩, covers⟩ := tightening
  refine ⟨start'.trans start, stop.trans stop', limit'.trans limit, ?_⟩
  rw [appliesTo_iff] at applies ⊢
  obtain both | same := covers
  · exact .inl both
  · rwa [same]

/-- An interim entry is a tightening of the entry it stands in for. -/
theorem interimOf_tightens (r old : Restriction) : tightens (interimOf r old) old = true := by
  have covers : AppliesTo.covers (appliesUnion r.applies old.applies) old.applies = true := by
    rw [covers_iff]
    unfold appliesUnion
    split
    next same => exact .inr same
    next => exact .inl rfl
  simp [tightens, interimOf, covers]

/-- What the current set held, it holds with an entry that tightens the one of its identity, if any. -/
theorem holds_putRestriction {r : Restriction} {l : List Restriction} {x v : Nat} {dir : Dir}
    (tightening : ∀ old, restrictionFor l r.identity = some old → tightens r old = true)
    (h : ∃ q ∈ l, q.holds x v dir) : ∃ q ∈ putRestriction r l, q.holds x v dir := by
  obtain ⟨q, mem, holds⟩ := h
  obtain stays | replaced := mem_putRestriction_or (r := r) mem
  · exact ⟨q, stays, holds⟩
  · exact ⟨r, mem_putRestriction_self r l, holds.of_tightens (tightening q replaced)⟩

theorem SetTo.holds {l m : List Restriction} (h : SetTo l m) {x v : Nat} {dir : Dir}
    (held : ∃ q ∈ l, q.holds x v dir) : ∃ q ∈ m, q.holds x v dir := by
  cases h with
  | same => exact held
  | new r absent =>
    refine holds_putRestriction (fun old present => ?_) held
    rw [absent] at present
    cases present
  | tighter r old present tightening =>
    refine holds_putRestriction (fun q found => ?_) held
    obtain rfl := Option.some.inj (present.symm.trans found)
    exact tightening
  | interim r old present =>
    refine holds_putRestriction (fun q found => ?_) held
    obtain rfl := Option.some.inj (present.symm.trans found)
    exact interimOf_tightens r old

/-- Settles O57: a SET enters nothing looser than the entry it replaces, and a LIFT waits staged. -/
theorem valleyNeverRelaxesAtOnce : Obligations.ValleyNeverRelaxesAtOnce := by
  intro p d x v dir held before
  refine ⟨(takeRestriction_current p d).holds before, ?_⟩
  change ∃ r ∈ (takeLift p d).1.aru.current, r.holds x v dir
  rw [takeLift_current]
  exact before

end Sys2Proof.Machine
end

section
/-! The requests of the Authority and Restriction Unit: O58. -/

namespace Sys2Proof.Machine

/-! ### Queuing an AUTHORITY_REQUEST (R163, R170) -/

theorem queueEntry_room {k : UplinkKind} {p : List Byte} {d : Device} (room : roomFor d = true) :
    ∃ n, (queueEntry k p d).2 = some n := by
  rw [queueEntry, if_pos room]
  exact ⟨_, rfl⟩

theorem queueEntry_full {k : UplinkKind} {p : List Byte} {d : Device} (full : roomFor d = false) :
    queueEntry k p d = (notify (.outboxFull k) d, none) := by
  rw [queueEntry, if_neg (by rw [full]; nofun)]

theorem askAuthority_undirected {d : Device} (undirected : d.aru.selDir = none) :
    askAuthority d = refuse .notAllowed d := if_pos undirected

theorem askAuthority_queued {d : Device} {n : Byte} (directed : d.aru.selDir ≠ none)
    (queued : (queueEntry .authorityRequest (requestPayload d) d).2 = some n) :
    askAuthority d =
      ⟨(queueEntry .authorityRequest (requestPayload d) d).1, none, .seqNumber n⟩ := by
  simp only [askAuthority, if_neg directed, queued]

theorem askAuthority_full {d : Device} (directed : d.aru.selDir ≠ none)
    (full : roomFor d = false) :
    askAuthority d = ⟨notify (.outboxFull .authorityRequest) d, some .full, .nothing⟩ := by
  simp only [askAuthority, if_neg directed, queueEntry_full full]

/-! ### The direction and the host's restrictions (R169, R180) -/

theorem askSelectDirection_accepted {d : Device} (x : Option Dir)
    (still : d.odu.standstill = true) (free : d.aru.auth = none) :
    askSelectDirection (some x) d = accept (selectDir x d) := by
  simp only [askSelectDirection]
  exact judged_accepted _ d (by simp [firstFailure, still, free])

theorem identityReason_host {i : Nat} (low : 32768 ≤ i) (high : i ≤ 65535) :
    identityReason i = none := if_pos (by simp [inRange, low, high])

theorem identityReason_valley {i : Nat} (low : 1 ≤ i) (high : i ≤ 32767) :
    identityReason i = some .notAllowed := by
  have notHigh : ¬ 32768 ≤ i := by omega
  have notHost : inRange 32768 65535 i = false := by simp [inRange, notHigh]
  have valley : inRange 1 32767 i = true := by simp [inRange, low, high]
  simp [identityReason, notHost, valley]

theorem askAddRestriction_accepted {d : Device} {i a b l : Nat} (p : AppliesTo)
    (host : identityReason i = none) (extent : a ≤ b) (slow : 1 ≤ l) (fast : l ≤ 15000)
    (room : (restrictionFor d.aru.current i).isSome = true ∨ d.aru.current.length < setRoom) :
    askAddRestriction i a b l (some p) d = accept { d with aru := { d.aru with
      current := putRestriction ⟨i, a, b, l, p, false⟩ d.aru.current } } := by
  simp only [askAddRestriction, host]
  refine judged_accepted _ d ?_
  have fits : (restrictionFor d.aru.current i).isSome
      || decide (d.aru.current.length < setRoom) := by simpa using room
  simp [firstFailure, fits, inRange, extent, slow, fast]

theorem askLiftRestriction_accepted {d : Device} {i : Nat} (host : identityReason i = none)
    (present : (restrictionFor d.aru.current i).isSome = true) :
    askLiftRestriction i d = accept (judgeRoom { d with aru := { d.aru with
      current := d.aru.current.filter (fun x => x.identity != i) } }) := by
  simp only [askLiftRestriction, host]
  exact judged_accepted _ d (by simp [firstFailure, present])

theorem askLiftRestriction_refused {d : Device} {i : Nat} {r : Reason}
    (other : identityReason i = some r) : askLiftRestriction i d = refuse r d := by
  simp only [askLiftRestriction, other]

/-- Settles O58: each request under its checks is answered by its block as the checks leave it. -/
theorem authorityRequestsComplete : Obligations.AuthorityRequestsComplete := by
  intro q s taken d
  refine ⟨fun x still free => ?_, fun directed room => ?_, fun directed full => ?_,
    fun undirected => ?_, fun i a b l p low high extent slow fast room => ?_,
    fun i low high present => ?_, fun i low high => ?_,
    ⟨_, request_answered taken rfl, rfl, ?_, ?_⟩⟩
  · exact request_accepted taken (askSelectDirection_accepted x still free)
  · obtain ⟨n, queued⟩ := queueEntry_room (k := .authorityRequest) (p := requestPayload d) room
    exact ⟨n, queued, request_answered taken (askAuthority_queued directed queued)⟩
  · exact request_answered taken (askAuthority_full directed full)
  · exact request_answered taken (askAuthority_undirected undirected)
  · exact request_accepted taken
      (askAddRestriction_accepted p (identityReason_host low high) extent slow fast room)
  · exact request_accepted taken
      (askLiftRestriction_accepted (identityReason_host low high) present)
  · exact request_answered taken (askLiftRestriction_refused (identityReason_valley low high))
  · rw [replied_aru, updateRestrictions_aru]
  · rw [replied_aru, updateRestrictions_aru]

end Sys2Proof.Machine
end

section
/-! What each operation leaves of the Authority and Restriction Unit: the whole record, or at least its two
sets. An operation's proof splits its branches; each is closed by the lemmas of the operations it calls,
which stand above it. -/

namespace Sys2Proof.Machine

/-! ### The two sets of the record -/

/-- The two sets of the unit (R175). -/
def Aru.sets (a : Aru) : List Restriction × List Staged := (a.current, a.staged)

/-- Direction, authority, timer and stop order are no part of the sets. -/
@[simp] theorem Aru.sets_beside (a : Aru) (x : Option Dir) (u : Option Authority)
    (t : Option Timer) (b : Bool) : Aru.sets ⟨x, u, t, a.current, a.staged, b⟩ = a.sets := rfl

/-! ### Requests and folds -/

@[simp] theorem foldl_aru {α : Type} (f : Device → α → Device) (h : ∀ x a, (f x a).aru = x.aru)
    (l : List α) (d : Device) : (l.foldl f d).aru = d.aru := by
  induction l generalizing d with
  | nil => rfl
  | cons a l ih => exact (ih _).trans (h d a)

/-- A request judged by checks keeps the unit's record if its effect does. -/
@[simp] theorem judged_aru {checks : List (Bool × Reason)} {run : Device → Answered} {d : Device}
    (h : (run d).dev.aru = d.aru) : (judged checks run d).dev.aru = d.aru :=
  judged_rel (R := fun d e => e.aru = d.aru) (fun _ => rfl) checks run d fun _ => h

/-! ### The shared operations, as `KeepsBlocks`, `KeepsMotion` and `KeepsGiven` have them -/

@[simp] theorem queueEntry_aru (k : UplinkKind) (p : List Byte) (d : Device) :
    (queueEntry k p d).1.aru = d.aru := (queueEntry_keeps k p d).aru
@[simp] theorem callPosition_aru (d : Device) :
    (callPosition d).aru = d.aru := (callPosition_keeps d).aru
@[simp] theorem endTest_aru (r : TestResult) (c : EndCause) (d : Device) :
    (endTest r c d).aru = d.aru := (endTest_keeps r c d).aru
@[simp] theorem bdtEvent_aru (f : List Entry → List Entry) (d : Device) :
    (bdtEvent f d).aru = d.aru := (bdtEvent_keeps f d).aru
@[simp] theorem raiseWith_aru (src : Source) (l : Level) (x : Option Nat) (d : Device) :
    (raiseWith src l x d).aru = d.aru := (raiseWith_keeps src l x d).aru
@[simp] theorem refreshBrakes_aru (d : Device) :
    (refreshBrakes d).aru = d.aru := (refreshBrakes_keeps d).aru
@[simp] theorem judgeChannel_aru (ch : Channel) (d : Device) :
    (judgeChannel ch d).aru = d.aru := (judgeChannel_keeps ch d).aru
@[simp] theorem beginPhase_aru (p : Phase) (k : Nat) (d : Device) :
    (beginPhase p k d).aru = d.aru := (beginPhase_keeps p k d).aru
@[simp] theorem testMovement_aru (m : Nat) (d : Device) :
    (testMovement m d).aru = d.aru := (testMovement_keeps m d).aru
@[simp] theorem setDoor_aru (n : DoorNo) (r : DoorRec) (d : Device) :
    (setDoor n r d).aru = d.aru := (setDoor_keeps n r d).aru
@[simp] theorem eachDoor_aru (f : DoorNo → DoorRec → DoorRec) (d : Device) :
    (eachDoor f d).aru = d.aru := (eachDoor_keeps f d).aru
@[simp] theorem judgeRelease_aru (d : Device) :
    (judgeRelease d).aru = d.aru := (judgeRelease_keeps d).aru
@[simp] theorem judgeDoorConditions_aru (d : Device) :
    (judgeDoorConditions d).aru = d.aru := (judgeDoorConditions_keeps d).aru
@[simp] theorem takeReport_aru (n : DoorNo) (x : Report) (d : Device) :
    (takeReport n x d).aru = d.aru := (takeReport_keeps n x d).aru
@[simp] theorem loseDoor_aru (n : DoorNo) (d : Device) :
    (loseDoor n d).aru = d.aru := (loseDoor_keeps n d).aru
@[simp] theorem refreshModeEntry_aru (d : Device) :
    (refreshModeEntry d).aru = d.aru := (refreshModeEntry_keeps d).aru
@[simp] theorem modeNotice_aru (d : Device) : (modeNotice d).aru = d.aru := (modeNotice_keeps d).aru
@[simp] theorem changeMode_aru (m : Mode) (d : Device) :
    (changeMode m d).aru = d.aru := (changeMode_keeps m d).aru
@[simp] theorem positionChanged_aru (d : Device) :
    (positionChanged d).aru = d.aru := (positionChanged_keeps d).aru
@[simp] theorem evaluate_aru (d : Device) : (evaluate d).aru = d.aru := (evaluate_keeps d).aru
@[simp] theorem rackEntryTest_aru (d : Device) :
    (rackEntryTest d).aru = d.aru := (rackEntryTest_keeps d).aru
@[simp] theorem meshChanged_aru (d : Device) :
    (meshChanged d).aru = d.aru := (meshChanged_keeps d).aru
@[simp] theorem placeAgain_aru (d : Device) : (placeAgain d).aru = d.aru := (placeAgain_keeps d).aru
@[simp] theorem faultBogie_aru (w : Bogie) (d : Device) :
    (faultBogie w d).aru = d.aru := (faultBogie_keeps w d).aru
@[simp] theorem recoverBogies_aru (d : Device) :
    (recoverBogies d).aru = d.aru := (recoverBogies_keeps d).aru
@[simp] theorem linkTo_aru (l : LinkState) (v : LinkEvent) (d : Device) :
    (linkTo l v d).aru = d.aru := (linkTo_keeps l v d).aru
@[simp] theorem silenceExpires_aru (d : Device) :
    (silenceExpires d).aru = d.aru := (silenceExpires_keeps d).aru
@[simp] theorem judgeShadow_aru (d : Device) :
    (judgeShadow d).aru = d.aru := (judgeShadow_keeps d).aru
@[simp] theorem validFrame_aru (d : Device) : (validFrame d).aru = d.aru := (validFrame_keeps d).aru
@[simp] theorem startConditions_aru (d : Device) :
    (startConditions d).aru = d.aru := (startConditions_keeps d).aru

/-! ### Mesh and calibration -/

@[simp] theorem endMeshWindow_aru (w : Bogie) (m : MeshRec) (d : Device) :
    (endMeshWindow w m d).aru = d.aru := by
  unfold endMeshWindow
  dsimp only
  (repeat' split) <;> simp

@[simp] theorem rackToothMesh_aru (w : Bogie) (d : Device) : (rackToothMesh w d).aru = d.aru := by
  unfold rackToothMesh
  dsimp only
  (repeat' split) <;> simp

@[simp] theorem pinionToothMesh_aru (w : Bogie) (d : Device) :
    (pinionToothMesh w d).aru = d.aru := by
  unfold pinionToothMesh
  dsimp only
  split <;> simp

@[simp] theorem missingRack_aru (n : Nat) (w : Bogie) (d : Device) :
    (missingRack n w d).aru = d.aru := by
  unfold missingRack
  dsimp only
  (repeat' split) <;> simp

@[simp] theorem castVote_aru (c : CarConfig) (k : Calib) (v : Leaning) (d : Device) :
    (castVote c k v d).aru = d.aru := by
  unfold castVote
  dsimp only
  (repeat' split) <;> simp

@[simp] theorem endCalWindow_aru (n : Nat) (d : Device) : (endCalWindow n d).aru = d.aru := by
  unfold endCalWindow
  (repeat' split) <;> simp

@[simp] theorem calTooth_aru (x : Sense) (d : Device) : (calTooth x d).aru = d.aru := by
  unfold calTooth
  (repeat' split) <;> simp

@[simp] theorem calPulse_aru (x : Sense) (d : Device) : (calPulse x d).aru = d.aru := by
  unfold calPulse
  (repeat' split) <;> simp

/-! ### Distance and standstill -/

@[simp] theorem movePosition_aru (b : Bool) (n : Nat) (x : Option Dir) (d : Device) :
    (movePosition b n x d).aru = d.aru := by
  unfold movePosition
  dsimp only
  (repeat' split) <;> simp

@[simp] theorem rollawayDistance_aru (n : Nat) (x : Option Dir) (d : Device) :
    (rollawayDistance n x d).aru = d.aru := by simp [rollawayDistance, rollawayTest_aru]

@[simp] theorem takeDistance_aru (b : Bool) (n : Nat) (x : Option Dir) (d : Device) :
    (takeDistance b n x d).aru = d.aru := by simp [takeDistance]

@[simp] theorem judgeDoorsMoving_aru (d : Device) : (judgeDoorsMoving d).aru = d.aru := by
  unfold judgeDoorsMoving
  split <;> simp

@[simp] theorem testStandstillLost_aru (d : Device) : (testStandstillLost d).aru = d.aru := by
  unfold testStandstillLost
  (repeat' split) <;> simp

@[simp] theorem standstillCleared_aru (d : Device) :
    (standstillCleared d).aru = d.aru := by simp [standstillCleared]

@[simp] theorem countEdge_aru (d : Device) : (countEdge d).aru = d.aru := by
  unfold countEdge
  split <;> simp

@[simp] theorem clearStartUpHold_aru (d : Device) : (clearStartUpHold d).aru = d.aru := by
  unfold clearStartUpHold
  split <;> simp

@[simp] theorem endWithdrawn_aru_sets (d : Device) : (endWithdrawn d).aru.sets = d.aru.sets := by
  unfold endWithdrawn
  (repeat' split) <;> simp [rollawayTest_aru]

@[simp] theorem setStandstill_aru_sets (d : Device) :
    (setStandstill d).aru.sets = d.aru.sets := by simp [setStandstill]

@[simp] theorem countQuiet_aru_sets (d : Device) : (countQuiet d).aru.sets = d.aru.sets := by
  unfold countQuiet
  dsimp only
  (repeat' split) <;> simp

@[simp] theorem twentiethQuiet_aru_sets (d : Device) :
    (twentiethQuiet d).aru.sets = d.aru.sets := by
  unfold twentiethQuiet
  split <;> simp

/-! ### Radio -/

@[simp] theorem pushAck_aru (n : Byte) (r : Result) (d : Device) : (pushAck n r d).aru = d.aru := by
  unfold pushAck
  split <;> simp

@[simp] theorem acknowledge_aru (n : Byte) (d : Device) : (acknowledge n d).aru = d.aru := by
  unfold acknowledge
  (repeat' split) <;> simp

@[simp] theorem ackTimeout_aru (n : Byte) (d : Device) : (ackTimeout n d).aru = d.aru := by
  unfold ackTimeout
  (repeat' split) <;> simp

@[simp] theorem telegramEnd_aru (d : Device) : (telegramEnd d).aru = d.aru := by
  unfold telegramEnd
  (repeat' split) <;> simp

@[simp] theorem logonExpires_aru (d : Device) : (logonExpires d).aru = d.aru := by
  unfold logonExpires
  split <;> simp

@[simp] theorem reportExpires_aru (d : Device) : (reportExpires d).aru = d.aru := by
  unfold reportExpires
  split <;> simp

@[simp] theorem finish_aru (d : Device) : (finish d).aru = d.aru := by
  obtain ⟨-, -, -, -, -, -, -, aru⟩ := finish_blocks d
  exact aru

/-! ### Authority and restrictions -/

@[simp] theorem setAuthority_aru_sets (a : Option Authority) (t : Option Timer) (d : Device) :
    (setAuthority a t d).aru.sets = d.aru.sets := by simp [setAuthority, rollawayTest_aru]

@[simp] theorem takeGrant_aru_sets (p : List Byte) (d : Device) :
    (takeGrant p d).1.aru.sets = d.aru.sets := by
  unfold takeGrant
  dsimp only
  (repeat' split) <;> simp

@[simp] theorem takeShorten_aru_sets (p : List Byte) (d : Device) :
    (takeShorten p d).1.aru.sets = d.aru.sets := by
  unfold takeShorten
  split <;> simp

@[simp] theorem withdrawAuthority_aru_sets (d : Device) :
    (withdrawAuthority d).aru.sets = d.aru.sets := by
  unfold withdrawAuthority
  (repeat' split) <;> simp

@[simp] theorem authorityExpires_aru_sets (d : Device) :
    (authorityExpires d).aru.sets = d.aru.sets := by
  unfold authorityExpires
  split <;> simp

@[simp] theorem setStopOrder_aru_sets (b : Bool) (d : Device) :
    (setStopOrder b d).aru.sets = d.aru.sets := by simp [setStopOrder]

/-! ### Telegrams -/

@[simp] theorem logonAnswer_aru (b : Byte) (d : Device) : (logonAnswer b d).aru = d.aru := by
  unfold logonAnswer
  (repeat' split) <;> simp

/-- The kinds of telegram that the radio unit acts on itself (R152, R162, R164). -/
def radioKinds : List DownKind := [.logonAccept, .uplinkAck, .poll]

/-- They never reach the Authority and Restriction Unit. -/
theorem actOn_aru {k : DownKind} (hk : k ∈ radioKinds) (t : Telegram) (d : Device) :
    (actOn k t d).aru = d.aru := by
  have kinds : k = .logonAccept ∨ k = .uplinkAck ∨ k = .poll := by simpa [radioKinds] using hk
  obtain rfl | rfl | rfl := kinds
  all_goals
    dsimp only [actOn]
    split <;> simp

@[simp] theorem restartSilence_aru (d : Device) : (restartSilence d).aru = d.aru := by
  unfold restartSilence
  split <;> simp

theorem takeTelegram_aru {k : DownKind} (hk : k ∈ radioKinds) (t : Telegram) (d : Device) :
    (takeTelegram k t d).aru = d.aru := by
  unfold takeTelegram takeValid
  dsimp only
  (repeat' split) <;> simp [actOn_aru hk]

/-! ### Resets -/

@[simp] theorem restartMesh_aru (d : Device) : (restartMesh d).aru = d.aru := rfl

@[simp] theorem startedNotice_aru (d : Device) :
    (startedNotice d).aru = d.aru := by simp [startedNotice]

@[simp] theorem restartReports_aru (m : Mode) (d : Device) : (restartReports m d).aru = d.aru := by
  unfold restartReports
  dsimp only
  (repeat' split) <;> simp

@[simp] theorem hearFrame_aru (d : Device) : (hearFrame d).aru = d.aru := by simp [hearFrame]

/-! ### Mode requests -/

@[simp] theorem askEnterService_aru (d : Device) :
    (askEnterService d).dev.aru = d.aru := by simp [askEnterService]

@[simp] theorem askEnterStabled_aru (d : Device) : (askEnterStabled d).dev.aru = d.aru := by
  unfold askEnterStabled
  split <;> simp

@[simp] theorem askWake_aru (d : Device) : (askWake d).dev.aru = d.aru := by
  unfold askWake
  split <;> simp

@[simp] theorem askEnterPreparation_aru (d : Device) :
    (askEnterPreparation d).dev.aru = d.aru := by simp [askEnterPreparation]

@[simp] theorem askRestart_aru (d : Device) : (askRestart d).dev.aru = d.aru := judged_aru rfl

@[simp] theorem askClearResetRecord_aru (d : Device) : (askClearResetRecord d).dev.aru = d.aru := by
  rw [askClearResetRecord, accept_dev]

@[simp] theorem askOrientation_aru (v : Option Dir) (d : Device) :
    (askOrientation v d).dev.aru = d.aru := by simp [askOrientation]

/-! ### Queries and the position -/

@[simp] theorem askSegment_aru (i : Nat) (d : Device) : (askSegment i d).dev.aru = d.aru := by
  unfold askSegment
  (repeat' split) <;> simp

@[simp] theorem askSetPosition_aru (x u : Nat) (d : Device) :
    (askSetPosition x u d).dev.aru = d.aru :=
  judged_aru (by simp)

@[simp] theorem answerPart_aru (k : QueryKind) (n : Nat) (d : Device) :
    (answerPart k n d).dev.aru = d.aru := by rw [answerPart_dev]

@[simp] theorem query_aru (k : QueryKind) (p : Byte) (f : Device → Contents) (d : Device) :
    (query k p f d).dev.aru = d.aru := by
  unfold query
  split <;> simp

/-! ### Demands and brakes -/

@[simp] theorem askReaction_aru (n : Nat) (l : Option Level) (m : Option LatchMode) (d : Device) :
    (askReaction n l m d).dev.aru = d.aru := by
  unfold askReaction
  (repeat' split) <;> simp

@[simp] theorem releaseEntry_aru (src : Source) (d : Device) :
    (releaseEntry src d).aru = d.aru := by
  unfold releaseEntry
  split <;> simp

@[simp] theorem askAck_aru (n : Nat) (d : Device) : (askAck n d).dev.aru = d.aru := by
  unfold askAck
  (repeat' split) <;> simp

@[simp] theorem askBrakeRequest_aru (l : Option Level) (n : Nat) (d : Device) :
    (askBrakeRequest l n d).dev.aru = d.aru := by
  unfold askBrakeRequest
  split <;> simp

@[simp] theorem feedbackEdge_aru (ch : Channel) (b : Bool) (d : Device) :
    (feedbackEdge ch b d).aru = d.aru := by
  unfold feedbackEdge
  dsimp only
  split <;> simp

@[simp] theorem feedbackExpires_aru (ch : Channel) (d : Device) :
    (feedbackExpires ch d).aru = d.aru := by
  unfold feedbackExpires
  dsimp only
  split <;> simp

@[simp] theorem nextPhase_aru (r : TestRun) (d : Device) : (nextPhase r d).aru = d.aru := by
  unfold nextPhase
  (repeat' split) <;> simp

@[simp] theorem phaseExpires_aru (d : Device) : (phaseExpires d).aru = d.aru := by
  unfold phaseExpires
  (repeat' split) <;> simp

@[simp] theorem askStopTest_aru (d : Device) : (askStopTest d).dev.aru = d.aru := by
  unfold askStopTest
  split <;> simp

@[simp] theorem beginTest_aru (h : Option (Nat × Nat)) (d : Device) :
    (beginTest h d).aru = d.aru := by simp [beginTest]

@[simp] theorem startTest_aru (h : Option (Nat × Nat)) (d : Device) :
    (startTest h d).aru = d.aru := by simp [startTest, rollawayTest_aru]

@[simp] theorem askStartTest_aru (h : Option (Nat × Nat)) (d : Device) :
    (askStartTest h d).dev.aru = d.aru := by simp [askStartTest]

/-! ### Doors and their bus -/

@[simp] theorem grantRelease_aru (x : Side) (d : Device) :
    (grantRelease x d).aru = d.aru := by simp [grantRelease]

@[simp] theorem closeDoors_aru (x : SideSel) (d : Device) :
    (closeDoors x d).aru = d.aru := by simp [closeDoors]

@[simp] theorem askReleaseDoors_aru (x : Option Side) (d : Device) :
    (askReleaseDoors x d).dev.aru = d.aru := by
  unfold askReleaseDoors
  cases x <;> exact judged_aru (by simp)

@[simp] theorem askCloseDoors_aru (x : Option SideSel) (d : Device) :
    (askCloseDoors x d).dev.aru = d.aru := by
  unfold askCloseDoors
  split <;> simp

@[simp] theorem missTrans_aru (t : Trans) (b : Bool) (d : Device) :
    (missTrans t b d).aru = d.aru := by
  unfold missTrans
  dsimp only
  (repeat' split) <;> simp

@[simp] theorem reportTrans_aru (t : Trans) (x : Report) (d : Device) :
    (reportTrans t x d).aru = d.aru := by
  unfold reportTrans
  split <;> simp

@[simp] theorem waitTrans_aru (t : Trans) (d : Device) : (waitTrans t d).aru = d.aru := by
  unfold waitTrans
  (repeat' split) <;> simp

@[simp] theorem takeAnswer_aru (judge : DoorNo → Answer) (d : Device) :
    (takeAnswer judge d).aru = d.aru := by
  unfold takeAnswer
  (repeat' split) <;> simp

@[simp] theorem windowCloses_aru (d : Device) :
    (windowCloses d).aru = d.aru := by simp [windowCloses]

@[simp] theorem isolateUnit_aru (n : DoorNo) (d : Device) : (isolateUnit n d).aru = d.aru := by
  unfold isolateUnit
  dsimp only
  (repeat' split) <;> simp

@[simp] theorem isolate_aru (n : DoorNo) (d : Device) : (isolate n d).aru = d.aru := by
  unfold isolate
  split <;> simp

@[simp] theorem askIsolate_aru (n : Nat) (d : Device) : (askIsolate n d).dev.aru = d.aru := by
  unfold askIsolate
  split <;> simp

@[simp] theorem askDeisolate_aru (n : Nat) (d : Device) : (askDeisolate n d).dev.aru = d.aru := by
  unfold askDeisolate
  split <;> simp

@[simp] theorem askClearFlags_aru (n : Nat) (d : Device) : (askClearFlags n d).dev.aru = d.aru := by
  unfold askClearFlags
  (repeat' split) <;> simp

@[simp] theorem dwellExpires_aru (n : DoorNo) (d : Device) : (dwellExpires n d).aru = d.aru := by
  unfold dwellExpires
  dsimp only
  split <;> simp

@[simp] theorem pollEnd_aru (d : Device) : (pollEnd d).aru = d.aru := by
  unfold pollEnd
  (repeat' split) <;> simp

@[simp] theorem repeatPoll_aru (d : Device) : (repeatPoll d).aru = d.aru := by
  unfold repeatPoll
  (repeat' split) <;> simp

/-! ### Authority requests and the link -/

@[simp] theorem selectDir_aru_sets (x : Option Dir) (d : Device) :
    (selectDir x d).aru.sets = d.aru.sets := by
  unfold selectDir
  split <;> simp

@[simp] theorem askAuthority_aru (d : Device) : (askAuthority d).dev.aru = d.aru := by
  unfold askAuthority
  dsimp only
  (repeat' split) <;> simp

@[simp] theorem linkSilenceExpires_aru (d : Device) : (linkSilenceExpires d).aru = d.aru := by
  unfold linkSilenceExpires
  split <;> simp

@[simp] theorem askStatus_aru (d : Device) : (askStatus d).dev.aru = d.aru := by rw [askStatus]

/-! ### Edges, markers and samples -/

@[simp] theorem sourceTooth_aru (w : Bogie) (x : Sense) (d : Device) :
    (sourceTooth w x d).aru = d.aru := by
  unfold sourceTooth
  (repeat' split) <;> simp

@[simp] theorem rackTooth_aru (w : Bogie) (x : Sense) (d : Device) :
    (rackTooth w x d).aru = d.aru := by
  unfold rackTooth
  dsimp only
  split <;> simp

@[simp] theorem meshWindowTooth_aru (w : Bogie) (x : Sense) (d : Device) :
    (meshWindowTooth w x d).aru = d.aru := by
  unfold meshWindowTooth
  dsimp only
  split <;> simp

@[simp] theorem calibrationTooth_aru (d : Device) : (calibrationTooth d).aru = d.aru := by
  unfold calibrationTooth
  (repeat' split) <;> simp

@[simp] theorem pinionTooth_aru (w : Bogie) (d : Device) :
    (pinionTooth w d).aru = d.aru := by simp [pinionTooth]

@[simp] theorem wheelPulse_aru (x : Sense) (d : Device) : (wheelPulse x d).aru = d.aru := by
  unfold wheelPulse
  dsimp only
  (repeat' split) <;> simp

@[simp] theorem setByMarker_aru (c : CarConfig) (f : Dir) (m : MarkerRec) (a b : Bool) (d : Device) :
    (setByMarker c f m a b d).aru = d.aru := by simp [setByMarker]

@[simp] theorem readMarker_aru (i : BitVec 16) (d : Device) : (readMarker i d).aru = d.aru := by
  unfold readMarker
  (repeat' split) <;> simp

@[simp] theorem sampleHandle_aru (h : Nat) (f : Bool) (d : Device) :
    (sampleHandle h f d).aru = d.aru := by
  unfold sampleHandle
  dsimp only
  split <;> simp

@[simp] theorem judgeAlarm_aru (d : Device) : (judgeAlarm d).aru = d.aru := by simp [judgeAlarm]

@[simp] theorem speedSample_aru_sets (h : Nat) (f : Bool) (d : Device) :
    (speedSample h f d).aru.sets = d.aru.sets := by simp [speedSample]

@[simp] theorem withContact_aru (ch : Channel) (b : Bool) (d : Device) :
    (withContact ch b d).aru = d.aru := by
  unfold withContact
  split <;> simp

@[simp] theorem askResetRecord_aru (d : Device) :
    (askResetRecord d).dev.aru = d.aru := by rw [askResetRecord]

@[simp] theorem askProfileInfo_aru (d : Device) :
    (askProfileInfo d).dev.aru = d.aru := by rw [askProfileInfo]

/-! ### Configuration and profile -/

@[simp] theorem configureSilence_aru (c : CarConfig) (d : Device) :
    (configureSilence c d).aru = d.aru := by
  unfold configureSilence
  (repeat' split) <;> simp

@[simp] theorem askConfigure_aru (c : CarConfig) (d : Device) :
    (askConfigure c d).dev.aru = d.aru := by
  refine judged_aru ?_
  split
  · rfl
  · simp [configure, (linkFlagCleared_keeps _).aru]

@[simp] theorem askLoadLine_aru (l : BitVec 24) (v : BitVec 32) (d : Device) :
    (askLoadLine l v d).dev.aru = d.aru := judged_aru rfl

@[simp] theorem askLoadSegment_aru (i : Byte) (r : SegmentBytes) (d : Device) :
    (askLoadSegment i r d).dev.aru = d.aru := judged_aru (by split <;> rfl)

@[simp] theorem askLoadStation_aru (i : Byte) (r : StationBytes) (d : Device) :
    (askLoadStation i r d).dev.aru = d.aru := judged_aru (by split <;> rfl)

@[simp] theorem askLoadMarker_aru (i : Byte) (r : MarkerRec) (d : Device) :
    (askLoadMarker i r d).dev.aru = d.aru := judged_aru rfl

@[simp] theorem askClearLoad_aru (d : Device) : (askClearLoad d).dev.aru = d.aru := judged_aru rfl

@[simp] theorem askCommit_aru (d : Device) : (askCommit d).dev.aru = d.aru := by
  refine judged_aru ?_
  split
  · rfl
  · exact commit_aru d

/-! ### The command table -/

@[simp] theorem request_aru (q : Req) {body : Device → Answered} (h : ∀ d, (body d).dev.aru = d.aru)
    (d : Device) : (request q body d).aru = d.aru := by
  unfold request answerFrame
  (repeat' split) <;> simp [h]

/-- A row of the command table that moves a line, if any, and runs its operation while the part is up. -/
theorem aru_of_up {f : Device → Device} {e : Device} {s t : State} (line : e.aru = s.dev.aru)
    (h : (f e).aru = e.aru) (ht : become s (whenUp f e) = .next t) : t.dev.aru = s.dev.aru := by
  obtain rfl := Host.Outcome.next.inj ht
  unfold whenUp
  split
  · exact line
  · exact (finish_aru _).trans (h.trans line)

/-- The commands that can write the unit's record: those that can reset the part (R13, R14, R120), raw
bytes, the telegrams of the unit, its requests, and what ends an authority or applies the staged changes
(R171, R174, R179). -/
def writesUnit : Instr → Prop
  | .powerOn | .batterySample _ | .warmRestart | .frameSent | .frameDiscarded _
  | .authorityGrant _ | .authorityShorten _ | .authorityWithdraw _ | .restrictionSet _
  | .restrictionLift _ | .stopOrder _ | .stopRelease _ | .unknownTelegramKind _ _
  | .downlinkDiscarded _ | .authorityExpiry | .wakeTimerExpiry | .selectDirection _ _
  | .addRestriction _ _ _ _ _ _ | .liftRestriction _ _ | .acceptRelaxations _
  | .speedSample _ _ | .standstillSet => True
  | _ => False

/-- Every other command leaves the unit's record as it was: each row's operation has its lemma above. -/
theorem exec_aru (c : Instr) (s t : State) (hc : ¬ writesUnit c) (ht : exec c s = .next t) :
    t.dev.aru = s.dev.aru := by
  cases c with
  | powerOn | batterySample | warmRestart | frameSent | frameDiscarded | authorityGrant
  | authorityShorten | authorityWithdraw | restrictionSet | restrictionLift | stopOrder | stopRelease
  | unknownTelegramKind | downlinkDiscarded | authorityExpiry | wakeTimerExpiry | selectDirection
  | addRestriction | liftRestriction | acceptRelaxations | speedSample | standstillSet =>
    exact absurd trivial hc
  | unknownKind tag kind => exact aru_of_up rfl (request_aru _ (fun _ => rfl) _) ht
  | logonAccept | uplinkAck | poll => exact aru_of_up rfl (takeTelegram_aru (by decide) _ _) ht
  | _ => refine aru_of_up ?_ ?_ ht <;> simp

end Sys2Proof.Machine
end

section
/-! The law of the restriction sets, kept by every step: O9. -/

namespace Sys2Proof.Machine

/-! ### The relation -/

/-- The sets of the second device are tidy if those of the first one are (R175, R182). -/
def KeepsSets (d e : Device) : Prop := SetsLaw d → SetsLaw e

theorem KeepsSets.refl (d : Device) : KeepsSets d d := id

theorem KeepsSets.trans {d e f : Device} (h : KeepsSets d e) (k : KeepsSets e f) : KeepsSets d f :=
  k ∘ h

/-- What keeps each of the two sets tidy keeps the law. -/
theorem KeepsSets.of_each {d e : Device}
    (current : TidyCurrent d.aru.current → TidyCurrent e.aru.current)
    (staged : TidyStaged d.aru.staged → TidyStaged e.aru.staged) : KeepsSets d e := fun h => by
  obtain ⟨inForce, waiting⟩ := (setsLaw_iff d).mp h
  exact (setsLaw_iff e).mpr ⟨current inForce, staged waiting⟩

theorem KeepsSets.of_sets {d e : Device} (h : e.aru.sets = d.aru.sets) : KeepsSets d e := by
  obtain ⟨current, staged⟩ := Prod.mk.inj h
  exact .of_each (by rw [current]; exact id) (by rw [staged]; exact id)

theorem KeepsSets.of_aru {d e : Device} (h : e.aru = d.aru) : KeepsSets d e :=
  .of_sets (by rw [h])

/-- A reset empties both sets (R182). -/
theorem KeepsSets.of_blank {d e : Device} (h : e.aru = blankAru) : KeepsSets d e := fun _ =>
  (setsLaw_iff e).mpr (by rw [h]; exact ⟨tidyCurrent_nil, tidyStaged_nil⟩)

/-! ### Restrictions of the valley (R176 to R179) -/

theorem SetTo.tidy {l m : List Restriction} (h : SetTo l m) (tidy : TidyCurrent l) :
    TidyCurrent m := by
  cases h with
  | same => exact tidy
  | new r absent room => exact tidy.put (.inr room)
  | tighter r old present => exact tidy.put (.inl (Option.isSome_of_eq_some present))
  | interim r old present => exact tidy.put (.inl (Option.isSome_of_eq_some present))

theorem stage_staged (s : Staged) (ok : Result) {d : Device} (h : TidyStaged d.aru.staged) :
    TidyStaged (stage s ok d).1.aru.staged := by
  obtain ⟨room, staged⟩ | same := stage_cases s ok d
  · rw [staged]
    exact h.append room
  · rwa [same]

theorem takeRestriction_staged (p : List Byte) {d : Device} (h : TidyStaged d.aru.staged) :
    TidyStaged (takeRestriction p d).1.aru.staged := by
  unfold takeRestriction
  split
  · exact h
  · rw [noticePending_aru]
    split
    · split
      · exact h.unstage _
      · rwa [setCondition_aru]
    · split
      · exact h.unstage _
      · split
        · exact stage_staged _ _ h
        · exact stage_staged _ _ (h.unstage _)

theorem takeRestriction_keepsSets (p : List Byte) (d : Device) :
    KeepsSets d (takeRestriction p d).1 :=
  .of_each (takeRestriction_current p d).tidy (takeRestriction_staged p)

theorem takeLift_keepsSets (p : List Byte) (d : Device) : KeepsSets d (takeLift p d).1 := by
  refine .of_each (by rw [takeLift_current]; exact id) fun h => ?_
  unfold takeLift
  dsimp only
  split
  · split
    · rw [noticePending_aru]
      exact stage_staged _ _ h
    · exact h
  · exact h

theorem updateRestrictions_keepsSets (d : Device) : KeepsSets d (updateRestrictions d) := by
  refine .of_each (fun h => ?_) fun _ => ?_
  · rw [updateRestrictions_aru]
    exact h.applyAll _
  · rw [updateRestrictions_aru]
    exact tidyStaged_nil

/-! ### Telegrams -/

theorem handToAru_keepsSets (k : DownKind) (p : List Byte) (d : Device) :
    KeepsSets d (handToAru k p d).1 := by
  unfold handToAru
  split
  case h_4 => exact takeRestriction_keepsSets p d
  case h_5 => exact takeLift_keepsSets p d
  all_goals exact .of_sets (by simp)

theorem takeAcknowledged_keepsSets (k : DownKind) (t : Telegram) (d : Device) :
    KeepsSets d (takeAcknowledged k t d) := by
  unfold takeAcknowledged
  split
  · exact .of_aru (by simp)
  · split
    · exact .of_aru (by simp)
    · exact (handToAru_keepsSets k t.payload d).trans (.of_aru (by simp))

theorem actOn_keepsSets (k : DownKind) (t : Telegram) (d : Device) : KeepsSets d (actOn k t d) := by
  by_cases radio : k ∈ radioKinds
  · exact .of_aru (actOn_aru radio t d)
  unfold actOn
  split
  case h_1 => exact .refl d
  case h_2 | h_3 | h_4 => exact absurd (by decide) radio
  case h_5 => exact takeAcknowledged_keepsSets k t d

theorem takeValid_keepsSets (k : DownKind) (t : Telegram) (d : Device) :
    KeepsSets d (takeValid k t d) := by
  have heard : KeepsSets d (restartSilence d) := .of_aru (restartSilence_aru d)
  unfold takeValid
  split
  · dsimp only
    split
    · exact heard.trans (actOn_keepsSets k t _)
    · exact heard
  · exact .refl d

theorem takeTelegram_keepsSets (k : DownKind) (t : Telegram) (d : Device) :
    KeepsSets d (takeTelegram k t d) :=
  KeepsSets.trans (.of_aru rfl) (takeValid_keepsSets k t (dropTelegram d))

theorem takeComplete_keepsSets (frame : List Byte) (d : Device) :
    KeepsSets d (takeComplete frame d) := by
  unfold takeComplete
  split
  · exact takeValid_keepsSets _ _ d
  · exact .refl d

/-- Frames or telegrams taken one by one, each closed as a command is (log 5). -/
theorem foldl_finish_keepsSets {α : Type} {f : α → Device → Device}
    (h : ∀ a x, KeepsSets x (f a x)) (l : List α) (d : Device) :
    KeepsSets d (l.foldl (fun x a => finish (f a x)) d) := by
  induction l generalizing d with
  | nil => exact .refl d
  | cons a l ih => exact ((h a d).trans (.of_aru (finish_aru _))).trans (ih _)

theorem takeModemBytes_keepsSets (bytes : List Byte) (d : Device) :
    KeepsSets d (takeModemBytes bytes d) := by
  refine KeepsSets.trans ?_ (foldl_finish_keepsSets takeComplete_keepsSets _ _)
  exact .of_aru rfl

/-! ### Requests -/

theorem judged_keepsSets {checks : List (Bool × Reason)} {run : Device → Answered} {d : Device}
    (h : firstFailure checks = none → KeepsSets d (run d).dev) :
    KeepsSets d (judged checks run d).dev := judged_rel KeepsSets.refl checks run d h

theorem askSelectDirection_keepsSets (x : Option (Option Dir)) (d : Device) :
    KeepsSets d (askSelectDirection x d).dev := by
  unfold askSelectDirection
  split
  · exact .refl d
  · exact judged_keepsSets fun _ => .of_sets (by simp)

/-- ADD_RESTRICTION writes into room or in place of an entry, as its last check has it (R180). -/
theorem askAddRestriction_keepsSets (i a b l : Nat) (x : Option AppliesTo) (d : Device) :
    KeepsSets d (askAddRestriction i a b l x d).dev := by
  unfold askAddRestriction
  split
  · exact .refl d
  · exact .refl d
  · refine judged_keepsSets fun checked => .of_each (fun h => h.put ?_) id
    obtain ⟨-, checked⟩ := firstFailure_cons.mp checked
    obtain ⟨fits, -⟩ := firstFailure_cons.mp checked
    simpa using fits

theorem askLiftRestriction_keepsSets (i : Nat) (d : Device) :
    KeepsSets d (askLiftRestriction i d).dev := by
  unfold askLiftRestriction
  split
  · exact .refl d
  · refine judged_keepsSets fun _ => KeepsSets.trans ?_ (.of_aru (judgeRoom_aru _))
    exact .of_each (fun h => h.sublist List.filter_sublist) id

theorem requestBody_keepsSets (kind : Nat) (p : List Byte) (d : Device) :
    KeepsSets d (requestBody kind p d).dev := by
  unfold requestBody
  split
  case h_35 => exact askSelectDirection_keepsSets _ d
  case h_38 => exact askAddRestriction_keepsSets _ _ _ _ _ d
  case h_39 => exact askLiftRestriction_keepsSets _ d
  case h_40 => exact updateRestrictions_keepsSets d
  all_goals exact .of_aru (by simp)

theorem answerFrame_keepsSets (q : Req) {body : Device → Answered}
    (h : ∀ d, KeepsSets d (body d).dev) (d : Device) : KeepsSets d (answerFrame q body d) := by
  unfold answerFrame
  split
  · exact .refl d
  · split
    · exact (h d).trans (.of_aru rfl)
    · exact .of_aru rfl

theorem request_keepsSets (q : Req) {body : Device → Answered}
    (h : ∀ d, KeepsSets d (body d).dev) (d : Device) : KeepsSets d (request q body d) :=
  (KeepsSets.of_aru (validFrame_aru d)).trans (answerFrame_keepsSets q h _)

theorem takeFrame_keepsSets (frame : List Byte) (d : Device) : KeepsSets d (takeFrame frame d) :=
  (KeepsSets.of_aru (hearFrame_aru d)).trans (answerFrame_keepsSets _ (requestBody_keepsSets _ _) _)

theorem takeLinkBytes_keepsSets (bytes : List Byte) (d : Device) :
    KeepsSets d (takeLinkBytes bytes d) := by
  refine KeepsSets.trans ?_ (foldl_finish_keepsSets takeFrame_keepsSets _ _)
  exact .of_aru (keepAssembly_aru bytes d)

/-! ### The update event, the supply watch and the resets (R13, R14, R179, R182) -/

theorem wakeExpires_keepsSets (d : Device) : KeepsSets d (wakeExpires d) := by
  unfold wakeExpires
  split
  · exact (updateRestrictions_keepsSets (stopWake d)).trans (.of_aru (changeMode_aru _ _))
  · exact .refl d

theorem warmRestart_aru (d : Device) : (warmRestart d).aru = blankAru := by
  have begun : (restartBlocks d).aru = blankAru := rfl
  unfold warmRestart
  dsimp only
  split <;> simp [begun]

theorem restartIfAccepted_keepsSets (d : Device) : KeepsSets d (restartIfAccepted d) := by
  unfold restartIfAccepted
  split
  · split
    · exact .of_blank (warmRestart_aru d)
    · exact .refl d
  · exact .refl d

theorem frameEnd_keepsSets (d : Device) : KeepsSets d (frameEnd d) := by
  unfold frameEnd
  split
  · split
    · exact .of_blank (warmRestart_aru d)
    · exact .of_aru rfl
  · exact .of_aru rfl

theorem judgeFirstSample_aru (r : Nat) (d : Device) : (judgeFirstSample r d).aru = d.aru := by
  obtain ⟨w, -, blocks, -⟩ := judgeFirstSample_cases r d
  exact blocks.aru

theorem watchSample_aru (r : Nat) (d : Device) : (watchSample r d).aru = d.aru := by
  unfold watchSample
  split
  · rfl
  · rw [finish_aru]
    (repeat' split) <;> simp [judgeFirstSample_aru]

theorem takeBatterySample_keepsSets (r : Nat) (d : Device) :
    KeepsSets d (takeBatterySample r d) := by
  unfold takeBatterySample
  split
  · split
    · exact .of_blank ((finish_aru _).trans (coldStart_started r d).blocks.aru)
    · exact .of_aru rfl
  · exact .of_aru (watchSample_aru r d)

/-! ### The command table -/

theorem keepsSets_of_up {f : Device → Device} {s t : State} (h : KeepsSets s.dev (f s.dev))
    (ht : become s (whenUp f s.dev) = .next t) : KeepsSets s.dev t.dev := by
  obtain rfl := Host.Outcome.next.inj ht
  unfold whenUp
  split
  · exact .refl _
  · exact h.trans (.of_aru (finish_aru _))

/-- Every command keeps the sets tidy: those of the unit enter into room or in place of an entry and stage
no identity twice, a reset empties both sets, and the rest do not write them. -/
theorem exec_keepsSets (c : Instr) (s t : State) (ht : exec c s = .next t) :
    KeepsSets s.dev t.dev := by
  cases c with
  | powerOn =>
    obtain rfl := Host.Outcome.next.inj ht
    exact .of_blank rfl
  | batterySample r =>
    obtain rfl := Host.Outcome.next.inj ht
    exact takeBatterySample_keepsSets r _
  | warmRestart => exact keepsSets_of_up (restartIfAccepted_keepsSets _) ht
  | frameSent => exact keepsSets_of_up (frameEnd_keepsSets _) ht
  | frameDiscarded b => exact keepsSets_of_up (takeLinkBytes_keepsSets b _) ht
  | downlinkDiscarded b => exact keepsSets_of_up (takeModemBytes_keepsSets b _) ht
  | authorityGrant | authorityShorten | authorityWithdraw | restrictionSet | restrictionLift
  | stopOrder | stopRelease | unknownTelegramKind =>
    exact keepsSets_of_up (takeTelegram_keepsSets _ _ _) ht
  | authorityExpiry => exact keepsSets_of_up (.of_sets (authorityExpires_aru_sets _)) ht
  | standstillSet => exact keepsSets_of_up (.of_sets (twentiethQuiet_aru_sets _)) ht
  | speedSample h f => exact keepsSets_of_up (.of_sets (speedSample_aru_sets h f _)) ht
  | wakeTimerExpiry => exact keepsSets_of_up (wakeExpires_keepsSets _) ht
  | selectDirection q x =>
    exact keepsSets_of_up (request_keepsSets q (askSelectDirection_keepsSets x) _) ht
  | addRestriction q i a b l x =>
    exact keepsSets_of_up (request_keepsSets q (askAddRestriction_keepsSets i a b l x) _) ht
  | liftRestriction q i =>
    exact keepsSets_of_up (request_keepsSets q (askLiftRestriction_keepsSets i) _) ht
  | acceptRelaxations q =>
    exact keepsSets_of_up (request_keepsSets q updateRestrictions_keepsSets _) ht
  | _ => exact .of_aru (exec_aru _ s t id ht)

/-- Settles O9: a step is a tick, which leaves the sets alone, or a command. -/
theorem setsLawKept : Obligations.SetsLawKept := by
  intro s t h ht
  unfold step at ht
  split at ht
  · obtain rfl := Host.Outcome.next.inj ht
    exact h
  · next c rest _ => exact exec_keepsSets c { s with pending := rest } t ht h

end Sys2Proof.Machine
end

section
/-! What an operation may write of eight records (O60): the odometry record, the rows of the reaction
table, the link records of the door bus, the doors, the record of a brake test, the radio link state, the
duplicate window and the snapshot; and that none moves the clock (O3). The other two records of O60 have
their frames in `exec_aru` and `exec_ssv`. -/

namespace Sys2Proof.Machine

/-! ### The relation -/

/-- Eight of the ten records of O60. -/
inductive Record
  | odometry | rows | links | doors | test | link | window | snapshot

/-- The rows of the reaction table (R86). -/
def Bdt.rows (t : Bdt) := t.entries.map Entry.row

/-- The clock and the records, but for the brake test. -/
def Device.apart (d : Device) :=
  (d.now, d.odu, d.bdt.rows, d.dbm.links, d.dcu, d.vru.link, d.vru.dupWindow, d.clp.snapshot)

/-- The clock and the records. -/
def Device.records (d : Device) := (d.apart, d.bau.run, d.bau.test)

/-- The clock stays, and of the records only those that `w` opens may differ. The record of a brake test
counts while none runs. -/
structure Within (w : Record → Prop) (d e : Device) : Prop where
  clock : e.now = d.now
  odometry : ¬ w .odometry → e.odu = d.odu
  rows : ¬ w .rows → e.bdt.rows = d.bdt.rows
  links : ¬ w .links → e.dbm.links = d.dbm.links
  doors : ¬ w .doors → e.dcu = d.dcu
  test : ¬ w .test → d.bau.run = none → e.bau.run = none ∧ e.bau.test = d.bau.test
  link : ¬ w .link → e.vru.link = d.vru.link
  window : ¬ w .window → e.vru.dupWindow = d.vru.dupWindow
  snapshot : ¬ w .snapshot → e.clp.snapshot = d.clp.snapshot

variable {w : Record → Prop} {o d e : Device}

theorem Within.refl (d : Device) : Within w d d :=
  ⟨rfl, fun _ => rfl, fun _ => rfl, fun _ => rfl, fun _ => rfl, fun _ idle => ⟨idle, rfl⟩,
    fun _ => rfl, fun _ => rfl, fun _ => rfl⟩

/-- Where every record is open only the clock counts. -/
theorem Within.of_clock (clock : e.now = d.now) (all : ∀ r, w r) : Within w d e :=
  ⟨clock, fun shut => absurd (all _) shut, fun shut => absurd (all _) shut,
    fun shut => absurd (all _) shut, fun shut => absurd (all _) shut,
    fun shut => absurd (all _) shut, fun shut => absurd (all _) shut,
    fun shut => absurd (all _) shut, fun shut => absurd (all _) shut⟩

/-- A write beside the other records: the test may change while one runs, or where its record is open. -/
theorem Within.moved (h : Within w o d) (same : e.apart = d.apart)
    (test : d.bau.run = none → w .test ∨ e.bau.run = none ∧ e.bau.test = d.bau.test) :
    Within w o e := by
  simp only [Device.apart, Prod.mk.injEq] at same
  obtain ⟨clock, odometry, rows, links, doors, link, window, snapshot⟩ := same
  refine ⟨clock.trans h.clock, fun shut => odometry.trans (h.odometry shut),
    fun shut => rows.trans (h.rows shut), fun shut => links.trans (h.links shut),
    fun shut => doors.trans (h.doors shut), fun shut idle => ?_,
    fun shut => link.trans (h.link shut), fun shut => window.trans (h.window shut),
    fun shut => snapshot.trans (h.snapshot shut)⟩
  obtain ⟨still, kept⟩ := h.test shut idle
  obtain ⟨after, record⟩ := (test still).resolve_left shut
  exact ⟨after, record.trans kept⟩

/-- A write beside the records. -/
theorem Within.unseen (h : Within w o d) (same : e.records = d.records) : Within w o e := by
  simp only [Device.records, Prod.mk.injEq] at same
  obtain ⟨apart, run, test⟩ := same
  exact h.moved apart fun idle => .inr ⟨run.trans idle, test⟩

theorem Within.withOdu (odometry : w .odometry) (x : Odu) (h : Within w o d) :
    Within w o { d with odu := x } :=
  { h with odometry := fun shut => absurd odometry shut }

theorem Within.withDbm (links : w .links) (x : Dbm) (h : Within w o d) :
    Within w o { d with dbm := x } :=
  { h with links := fun shut => absurd links shut }

theorem Within.withDcu (doors : w .doors) (x : Dcu) (h : Within w o d) :
    Within w o { d with dcu := x } :=
  { h with doors := fun shut => absurd doors shut }

theorem Within.withLink (link : w .link) (x : LinkState) (h : Within w o d) :
    Within w o { d with vru := { d.vru with link := x } } :=
  { h with link := fun shut => absurd link shut }

theorem Within.withSnapshot (snapshot : w .snapshot) (x : Option Contents) (h : Within w o d) :
    Within w o { d with clp := { d.clp with snapshot := x } } :=
  { h with snapshot := fun shut => absurd snapshot shut }

theorem enterWindow_within (window : w .window) (n : Byte) (r : Result) (h : Within w o d) :
    Within w o (enterWindow n r d) :=
  { h with window := fun shut => absurd window shut }

/-- What the frames of a table's operation say. -/
theorem Within.works (h : Within w o d) (blocks : KeepsBlocks d e) (works : Works d e)
    (rows : ¬ w .rows → e.bdt.rows = d.bdt.rows) : Within w o e := by
  obtain ⟨l, b, port⟩ := works.ports.port
  exact ⟨blocks.now.trans h.clock, fun shut => blocks.odu.trans (h.odometry shut),
    fun shut => (rows shut).trans (h.rows shut), fun shut => by rw [blocks.dbm, h.links shut],
    fun shut => blocks.dcu.trans (h.doors shut),
    fun shut idle => by
      obtain ⟨still, kept⟩ := h.test shut idle
      obtain ⟨after, record⟩ := works.trial.idle still
      exact ⟨after, record.trans kept⟩,
    fun shut => works.ports.link.trans (h.link shut),
    fun shut => works.ports.dupWindow.trans (h.window shut),
    fun shut => by rw [port, ← h.snapshot shut]⟩

/-- What is queued is in no record. -/
theorem Within.queues (h : Within w o d) (blocks : KeepsBlocks d e) (queued : Queues d e) :
    Within w o e := h.works blocks queued.works fun _ => by rw [queued.bdt]

theorem foldl_within {α : Type} {f : Device → α → Device}
    (hf : ∀ {x : Device} (a : α), Within w o x → Within w o (f x a)) (l : List α)
    (h : Within w o d) : Within w o (l.foldl f d) := by
  induction l generalizing d with
  | nil => exact h
  | cons a l ih => exact ih (hf a h)

/-! ### Notices, reports and outputs -/

@[simp] theorem notify_within (n : Notice) (h : Within w o d) : Within w o (notify n d) :=
  h.queues (notify_keeps n d) (notify_queues n d)

@[simp] theorem callPosition_within (h : Within w o d) : Within w o (callPosition d) :=
  h.queues (callPosition_keeps d) (callPosition_queues d)

@[simp] theorem queueEntry_within (k : UplinkKind) (p : List Byte) (h : Within w o d) :
    Within w o (queueEntry k p d).1 := h.queues (queueEntry_keeps k p d) (queueEntry_queues k p d)

@[simp] theorem setOutputs_within (h : Within w o d) : Within w o (setOutputs d) := h.unseen rfl

@[simp] theorem refreshBrakes_within (h : Within w o d) : Within w o (refreshBrakes d) := h.unseen rfl

/-! ### Events of the table (R85) -/

@[simp] theorem raiseEntry_row (r : Raise) (x : Entry) : (raiseEntry r x).row = x.row := by
  simp [Entry.row]

@[simp] theorem clearEntry_row (x : Entry) : (clearEntry x).row = x.row := by simp [Entry.row]

@[simp] theorem judgeAlarmEntry_row (b : Bool) (x : Entry) : (judgeAlarmEntry b x).row = x.row := by
  simp [Entry.row]

@[simp] theorem releasedEntry_row (x : Entry) : (releasedEntry x).row = x.row := rfl

/-- A change of one source's entry that keeps its row keeps every row. -/
theorem onEntry_rows {f : Entry → Entry} (row : ∀ x, (f x).row = x.row) (src : Source)
    (l : List Entry) : (onEntry src f l).map Entry.row = l.map Entry.row := by
  rw [onEntry, List.map_map]
  refine List.map_congr_left fun x _ => ?_
  dsimp only [Function.comp]
  split
  · exact row x
  · rfl

theorem tableEvent_within {f : List Entry → List Entry}
    (rows : ¬ w .rows → ∀ l, (f l).map Entry.row = l.map Entry.row) (h : Within w o d) :
    Within w o (tableEvent f d) :=
  h.works (tableEvent_keeps f d) (tableEvent_works f d) fun shut => by
    rw [tableEvent_bdt]
    exact rows shut _

theorem entryEvent_within (src : Source) {f : Entry → Entry} (row : ∀ x, (f x).row = x.row)
    (h : Within w o d) : Within w o (tableEvent (onEntry src f) d) :=
  tableEvent_within (fun _ => onEntry_rows row src) h

/-! ### The end of a brake test (R119) -/

@[simp] theorem rollawayAfterTest_within (h : Within w o d) : Within w o (rollawayAfterTest d) := by
  unfold rollawayAfterTest
  split
  · exact entryEvent_within _ (raiseEntry_row _) h
  · exact h

@[simp] theorem reportTestFailure_within (c : EndCause) (h : Within w o d) :
    Within w o (reportTestFailure c d) := by
  have raised := entryEvent_within .brakeTest (raiseEntry_row (raiseOf .none none d)) h
  have cleared := entryEvent_within .brakeTest clearEntry_row raised
  unfold reportTestFailure
  dsimp only
  split
  · exact entryEvent_within _ (raiseEntry_row _) cleared
  · exact cleared

/-- The end of a test that runs, or whose record is open. -/
theorem endTest_within (r : TestResult) (c : EndCause) (running : d.bau.run = none → w .test)
    (h : Within w o d) : Within w o (endTest r c d) := by
  have written : Within w o (writeTestEnd r c (movementAfter d.bau.test d.bau.run) (endPhase d)) :=
    h.moved rfl fun idle => .inl (running idle)
  refine notify_within _ (rollawayAfterTest_within ?_)
  split
  · exact reportTestFailure_within c written
  · exact written

@[simp] theorem abortIfEmergency_within (h : Within w o d) : Within w o (abortIfEmergency d) := by
  unfold abortIfEmergency
  split
  next aborts => exact endTest_within _ _ (fun idle => by simp [idle] at aborts) h
  next => exact h

/-! ### Raises and clears -/

theorem bdtEvent_within {f : List Entry → List Entry}
    (rows : ¬ w .rows → ∀ l, (f l).map Entry.row = l.map Entry.row) (h : Within w o d) :
    Within w o (bdtEvent f d) := abortIfEmergency_within (tableEvent_within rows h)

theorem bdtEntry_within (src : Source) {f : Entry → Entry} (row : ∀ x, (f x).row = x.row)
    (h : Within w o d) : Within w o (bdtEvent (onEntry src f) d) :=
  bdtEvent_within (fun _ => onEntry_rows row src) h

@[simp] theorem raiseWith_within (src : Source) (l : Level) (x : Option Nat) (h : Within w o d) :
    Within w o (raiseWith src l x d) := by
  unfold raiseWith
  split
  · exact bdtEntry_within _ clearEntry_row h
  · exact bdtEntry_within _ (raiseEntry_row _) h

@[simp] theorem clear_within (src : Source) (h : Within w o d) : Within w o (clear src d) :=
  bdtEntry_within _ clearEntry_row h

@[simp] theorem setCondition_within (src : Source) (b : Bool) (h : Within w o d) :
    Within w o (setCondition src b d) := by
  unfold setCondition raise
  (repeat' split) <;> simp [h]

/-! ### Feedback and the phases of a test -/

@[simp] theorem judgeBrakeFault_within (b : Bool) (h : Within w o d) :
    Within w o (judgeBrakeFault b d) := by
  unfold judgeBrakeFault raise
  (repeat' split)
  next running => exact endTest_within _ _ (fun idle => by simp [idle] at running) h
  all_goals simp [h]

@[simp] theorem judgeChannel_within (ch : Channel) (h : Within w o d) :
    Within w o (judgeChannel ch d) := judgeBrakeFault_within _ (h.unseen rfl)

/-- A phase of a test that runs, or whose record is open. -/
theorem beginPhase_within (p : Phase) (n : Nat) (running : d.bau.run = none → w .test)
    (h : Within w o d) : Within w o (beginPhase p n d) := by
  unfold beginPhase
  split
  · exact h.moved rfl fun idle => .inl (running idle)
  · exact endTest_within _ _ running h

theorem nextPhase_within (r : TestRun) (running : d.bau.run = none → w .test) (h : Within w o d) :
    Within w o (nextPhase r d) := by
  have noted : Within w o (notePhaseMovement d) := h.moved rfl fun idle => .inl (running idle)
  have begun := fun p n => beginPhase_within p n (d := notePhaseMovement d) running noted
  have ended := endTest_within .passed .completed (d := notePhaseMovement d) running noted
  unfold nextPhase
  (repeat' split) <;> simp [begun, ended]

@[simp] theorem testMovement_within (n : Nat) (h : Within w o d) :
    Within w o (testMovement n d) := by
  unfold testMovement
  split
  next r c run _ =>
    have moved : Within w o { d with bau := { d.bau with
        run := some { r with movement := r.movement + n } } } :=
      h.moved rfl fun idle => by simp [idle] at run
    dsimp only
    (repeat' split)
    · exact endTest_within _ _ nofun moved
    · exact moved
    · exact h
  · exact h

@[simp] theorem testStandstillLost_within (h : Within w o d) :
    Within w o (testStandstillLost d) := by
  unfold testStandstillLost
  split
  next r run =>
    have running : d.bau.run = none → w .test := fun idle => by simp [idle] at run
    split
    · exact h.moved rfl fun idle => .inl (running idle)
    · exact endTest_within _ _ running h
  next => exact h

@[simp] theorem clearGuard_within (h : Within w o d) : Within w o (clearGuard d) :=
  h.moved rfl fun idle => .inr ⟨by simp [clearGuard, idle], rfl⟩

end Sys2Proof.Machine
end

section
/-! The shared operations and the records: the doors and their bus, the mode, the supervision and the
odometry. An operation asks for the records it may write; its proof splits its branches. -/

namespace Sys2Proof.Machine

variable {w : Record → Prop} {o d : Device}

/-! ### Doors -/

@[simp] theorem setDoor_within (doors : w .doors) (n : DoorNo) (r : DoorRec) (h : Within w o d) :
    Within w o (setDoor n r d) := by
  have written := h.withDcu doors { d.dcu with doors := d.dcu.doors.set n r }
  unfold setDoor
  dsimp only
  split
  · exact written
  · exact notify_within _ written

@[simp] theorem eachDoor_within (doors : w .doors) (f : DoorNo → DoorRec → DoorRec)
    (h : Within w o d) : Within w o (eachDoor f d) :=
  foldl_within (f := fun x n => setDoor n (f n (x.dcu.doors.get n)) x)
    (fun n => setDoor_within doors n _) allDoors h

@[simp] theorem withdrawRelease_within (doors : w .doors) (h : Within w o d) :
    Within w o (withdrawRelease d) := by
  unfold withdrawRelease
  split
  · exact h
  · exact eachDoor_within doors _ (h.withDcu doors _)

@[simp] theorem judgeRelease_within (doors : w .doors) (h : Within w o d) :
    Within w o (judgeRelease d) := by
  unfold judgeRelease
  (repeat' split) <;> simp [h, doors]

@[simp] theorem judgeMoving_within (b : Bool) (h : Within w o d) : Within w o (judgeMoving b d) := by
  unfold judgeMoving
  dsimp only
  (repeat' split) <;> simp [h]

@[simp] theorem judgeConditions_within (b : Bool) (h : Within w o d) :
    Within w o (judgeConditions b d) :=
  setCondition_within _ _ (judgeMoving_within b (setCondition_within _ _ h))

@[simp] theorem judgeDoorConditions_within (h : Within w o d) :
    Within w o (judgeDoorConditions d) := judgeConditions_within false h

@[simp] theorem takeReport_within (doors : w .doors) (n : DoorNo) (x : Report) (h : Within w o d) :
    Within w o (takeReport n x d) := by
  unfold takeReport
  dsimp only
  split <;> simp [h, doors]

@[simp] theorem loseDoor_within (doors : w .doors) (n : DoorNo) (h : Within w o d) :
    Within w o (loseDoor n d) := by
  unfold loseDoor
  dsimp only
  split <;> simp [h, doors]

@[simp] theorem judgeDoorsMoving_within (h : Within w o d) : Within w o (judgeDoorsMoving d) := by
  unfold judgeDoorsMoving
  split <;> simp [h]

/-! ### The door bus -/

@[simp] theorem endTrans_within (t : Trans) (h : Within w o d) : Within w o (endTrans t d) :=
  h.unseen rfl

@[simp] theorem mapLink_within (links : w .links) (n : DoorNo) (f : LinkRec → LinkRec)
    (h : Within w o d) : Within w o (mapLink n f d) := h.withDbm links _

@[simp] theorem missTrans_within (doors : w .doors) (links : w .links) (t : Trans) (b : Bool)
    (h : Within w o d) : Within w o (missTrans t b d) := by
  have missed := mapLink_within links t.unit (missedLink b) (endTrans_within t h)
  unfold missTrans
  dsimp only
  (repeat' split) <;> simp [h, doors, missed]

@[simp] theorem reportTrans_within (doors : w .doors) (links : w .links) (t : Trans) (x : Report)
    (h : Within w o d) : Within w o (reportTrans t x d) := by
  unfold reportTrans
  dsimp only
  split
  · exact endTrans_within t h
  · exact takeReport_within doors _ _ (mapLink_within links _ _ (endTrans_within t h))

@[simp] theorem waitTrans_within (doors : w .doors) (links : w .links) (t : Trans)
    (h : Within w o d) : Within w o (waitTrans t d) := by
  unfold waitTrans
  (repeat' split)
  · exact endTrans_within t h
  · exact h.unseen rfl
  · exact missTrans_within doors links _ _ h

@[simp] theorem takeAnswer_within (doors : w .doors) (links : w .links) (judge : DoorNo → Answer)
    (h : Within w o d) : Within w o (takeAnswer judge d) := by
  unfold takeAnswer
  (repeat' split) <;> simp [h, doors, links]

@[simp] theorem windowCloses_within (doors : w .doors) (links : w .links) (h : Within w o d) :
    Within w o (windowCloses d) := takeAnswer_within doors links _ h

@[simp] theorem isolateUnit_within (links : w .links) (n : DoorNo) (h : Within w o d) :
    Within w o (isolateUnit n d) := by
  have told := mapLink_within links n
    (fun l => { l with link := .unknown, misses := 0, last := none }) h
  unfold isolateUnit
  dsimp only
  (repeat' split) <;> exact told.unseen rfl

@[simp] theorem busPump_within (h : Within w o d) : Within w o (busPump d) := by
  unfold busPump
  (repeat' split) <;> exact h.unseen rfl

/-! ### Mode and supervision -/

@[simp] theorem refreshModeEntry_within (h : Within w o d) : Within w o (refreshModeEntry d) :=
  raiseWith_within _ _ _ h

@[simp] theorem modeNotice_within (h : Within w o d) : Within w o (modeNotice d) := notify_within _ h

@[simp] theorem rollawayTest_within (h : Within w o d) : Within w o (rollawayTest d) := by
  unfold rollawayTest
  split <;> simp [h]

@[simp] theorem quietSupervisor_within (h : Within w o d) : Within w o (quietSupervisor d) := by
  have cleared := setCondition_within .authority false (setCondition_within .overspeedEb false
    (setCondition_within .overspeedSb false h))
  unfold quietSupervisor
  dsimp only
  split
  · exact cleared.unseen rfl
  · exact notify_within _ (cleared.unseen rfl)

/-- A change of mode can withdraw a release (R133). -/
@[simp] theorem changeMode_within (doors : w .doors) (m : Mode) (h : Within w o d) :
    Within w o (changeMode m d) := by
  unfold changeMode
  split
  · exact h
  · have entered : Within w o { d with mdc := { d.mdc with mode := m } } := h.unseen rfl
    have told := callPosition_within (modeNotice_within (setOutputs_within
      (refreshModeEntry_within entered)))
    refine rollawayTest_within (judgeRelease_within doors ?_)
    split
    · exact quietSupervisor_within told
    · exact told

@[simp] theorem reportCauses_within (doors : w .doors) (h : Within w o d) :
    Within w o (reportCauses d) := by
  have told : ∀ a b, Within w o { d with mdc := { d.mdc with
      causePosition := a, causeRadio := b } } := fun _ _ => h.unseen rfl
  unfold reportCauses
  dsimp only
  (repeat' split) <;> simp [h, told, doors]

@[simp] theorem positionChanged_within (doors : w .doors) (h : Within w o d) :
    Within w o (positionChanged d) :=
  judgeRelease_within doors (reportCauses_within doors (setCondition_within _ _ h))

@[simp] theorem ssvEvent_within (src : Source) (a b : Bool) (x : Option Nat) (h : Within w o d) :
    Within w o (ssvEvent src a b x d) := by
  unfold ssvEvent
  (repeat' split) <;> simp [h]

@[simp] theorem evaluate_within (h : Within w o d) : Within w o (evaluate d) := by
  unfold evaluate
  split
  · exact h
  next c _ =>
    split
    · have judged : Within w o { d with ssv := evaluated c d } := h.unseen rfl
      have told := ssvEvent_within .authority d.ssv.authority (evaluated c d).authority none
        (ssvEvent_within .overspeedEb d.ssv.overspeedEb (evaluated c d).overspeedEb none
          (ssvEvent_within .overspeedSb d.ssv.overspeedSb (evaluated c d).overspeedSb (some c.aSb)
            judged))
      dsimp only
      split
      · exact told
      · exact notify_within _ told
    · exact h

/-! ### Placement and mesh -/

@[simp] theorem rackEntryTest_within (h : Within w o d) : Within w o (rackEntryTest d) := by
  unfold rackEntryTest
  (repeat' split) <;> simp [h]

@[simp] theorem chooseSource_within (odometry : w .odometry) (h : Within w o d) :
    Within w o (chooseSource d) := by
  unfold chooseSource
  dsimp only
  split
  · exact h
  · exact h.withOdu odometry _

@[simp] theorem mapBogies_within (odometry : w .odometry) (f : Bogie → MeshRec → MeshRec)
    (h : Within w o d) : Within w o (mapBogies f d) := h.withOdu odometry _

@[simp] theorem setMesh_within (odometry : w .odometry) (which : Bogie) (m : MeshRec)
    (h : Within w o d) : Within w o (setMesh which m d) := h.withOdu odometry _

@[simp] theorem meshChanged_within (odometry : w .odometry) (h : Within w o d) :
    Within w o (meshChanged d) :=
  rackEntryTest_within (mapBogies_within odometry _ (chooseSource_within odometry h))

@[simp] theorem placeBogies_within (odometry : w .odometry) (h : Within w o d) :
    Within w o (placeBogies d) := by
  unfold placeBogies
  dsimp only
  split <;> simp [h, odometry]

@[simp] theorem placeAgain_within (odometry : w .odometry) (doors : w .doors) (h : Within w o d) :
    Within w o (placeAgain d) := positionChanged_within doors (placeBogies_within odometry h)

@[simp] theorem faultBogie_within (odometry : w .odometry) (doors : w .doors) (which : Bogie)
    (h : Within w o d) : Within w o (faultBogie which d) :=
  positionChanged_within doors (meshChanged_within odometry (setCondition_within _ _
    ((setMesh_within odometry which (meshStart .fault) h).withOdu odometry _)))

@[simp] theorem recoverBogies_within (odometry : w .odometry) (doors : w .doors)
    (h : Within w o d) : Within w o (recoverBogies d) :=
  positionChanged_within doors (meshChanged_within odometry (mapBogies_within odometry _ h))

@[simp] theorem endMeshWindow_within (odometry : w .odometry) (doors : w .doors) (which : Bogie)
    (m : MeshRec) (h : Within w o d) : Within w o (endMeshWindow which m d) := by
  unfold endMeshWindow
  dsimp only
  (repeat' split) <;> simp [h, odometry, doors]

@[simp] theorem rackToothMesh_within (odometry : w .odometry) (doors : w .doors) (which : Bogie)
    (h : Within w o d) : Within w o (rackToothMesh which d) := by
  have meshed := meshChanged_within odometry (setMesh_within odometry which (meshStart .meshed) h)
  unfold rackToothMesh
  dsimp only
  (repeat' split) <;> simp [h, meshed, odometry, doors]

@[simp] theorem pinionToothMesh_within (odometry : w .odometry) (which : Bogie) (h : Within w o d) :
    Within w o (pinionToothMesh which d) := by
  unfold pinionToothMesh
  dsimp only
  split <;> simp [h, odometry]

@[simp] theorem missingRack_within (odometry : w .odometry) (doors : w .doors) (n : Nat) (which : Bogie)
    (h : Within w o d) : Within w o (missingRack n which d) := by
  unfold missingRack
  dsimp only
  (repeat' split) <;> simp [h, odometry, doors]

/-! ### Calibration -/

@[simp] theorem castVote_within (odometry : w .odometry) (c : CarConfig) (k : Calib) (v : Leaning)
    (h : Within w o d) : Within w o (castVote c k v d) := by
  unfold castVote
  dsimp only
  (repeat' split)
  · exact h.withOdu odometry _
  · exact notify_within _ (h.withOdu odometry _)
  · exact h.withOdu odometry _

@[simp] theorem endCalWindow_within (odometry : w .odometry) (n : Nat) (h : Within w o d) :
    Within w o (endCalWindow n d) := by
  have ended := h.withOdu odometry { d.odu with window := none }
  unfold endCalWindow
  dsimp only
  (repeat' split) <;> simp [ended, odometry]

@[simp] theorem calTooth_within (odometry : w .odometry) (x : Sense) (h : Within w o d) :
    Within w o (calTooth x d) := by
  unfold calTooth
  (repeat' split)
  · exact h
  · exact h.withOdu odometry _
  · exact h.withOdu odometry _
  · exact endCalWindow_within odometry _ h
  · exact h.withOdu odometry _

@[simp] theorem calPulse_within (odometry : w .odometry) (x : Sense) (h : Within w o d) :
    Within w o (calPulse x d) := by
  unfold calPulse
  (repeat' split)
  · exact h
  · exact h.withOdu odometry _
  · exact h.withOdu odometry _

/-! ### Distance and standstill -/

@[simp] theorem movePosition_within (odometry : w .odometry) (b : Bool) (n : Nat) (x : Option Dir)
    (h : Within w o d) : Within w o (movePosition b n x d) := by
  unfold movePosition
  dsimp only
  (repeat' split) <;> exact h.withOdu odometry _

@[simp] theorem takeDistance_within (odometry : w .odometry) (doors : w .doors) (b : Bool) (n : Nat)
    (x : Option Dir) (h : Within w o d) : Within w o (takeDistance b n x d) := by
  have moved := movePosition_within odometry b n x
    (h.withOdu odometry { d.odu with sampleAcc := d.odu.sampleAcc + n })
  have placed := testMovement_within n (placeAgain_within odometry doors moved)
  exact rollawayTest_within (placed.withOdu odometry _)

@[simp] theorem countEdge_within (odometry : w .odometry) (doors : w .doors) (h : Within w o d) :
    Within w o (countEdge d) := by
  have counted := h.withOdu odometry { d.odu with quiet := 0, edgeSince := true, standstill := false }
  unfold countEdge
  dsimp only
  split
  · exact judgeDoorsMoving_within (judgeRelease_within doors
      (setOutputs_within (testStandstillLost_within counted)))
  · exact counted

@[simp] theorem clearStartUpHold_within (h : Within w o d) : Within w o (clearStartUpHold d) := by
  unfold clearStartUpHold
  split
  · exact refreshModeEntry_within (h.unseen rfl)
  · exact h

@[simp] theorem endWithdrawn_within (h : Within w o d) : Within w o (endWithdrawn d) := by
  unfold endWithdrawn
  (repeat' split)
  · exact rollawayTest_within (h.unseen rfl)
  · exact h
  · exact h

@[simp] theorem setStandstill_within (odometry : w .odometry) (h : Within w o d) :
    Within w o (setStandstill d) := by
  have still : Within w o (zeroRollaway { d with odu := { d.odu with standstill := true, dir := none } }) :=
    h.withOdu odometry _
  have cleared := clearStartUpHold_within (setCondition_within .rollaway false
    (setCondition_within .mesh false still))
  exact endWithdrawn_within (refreshBrakes_within (clearGuard_within
    (bdtEvent_within (fun _ _ => rfl) cleared)))

@[simp] theorem countQuiet_within (odometry : w .odometry) (h : Within w o d) :
    Within w o (countQuiet d) := by
  unfold countQuiet
  dsimp only
  (repeat' split)
  · exact h.withOdu odometry _
  · exact setStandstill_within odometry (h.withOdu odometry _)
  · exact h.withOdu odometry _

@[simp] theorem twentiethQuiet_within (odometry : w .odometry) (h : Within w o d) :
    Within w o (twentiethQuiet d) := by
  unfold twentiethQuiet
  split
  · exact setStandstill_within odometry (h.withOdu odometry _)
  · exact h

end Sys2Proof.Machine
end

section
/-! The shared operations and the records: the radio port, the authority unit and its telegrams. -/

namespace Sys2Proof.Machine

variable {w : Record → Prop} {o d : Device}

/-! ### Link state -/

@[simp] theorem queueLogon_within (h : Within w o d) : Within w o (queueLogon d) :=
  h.queues (queueLogon_keeps d) (queueLogon_queues d)

@[simp] theorem endLogon_within (h : Within w o d) : Within w o (endLogon d) := by
  unfold endLogon
  dsimp only
  split <;> exact h.unseen rfl

@[simp] theorem enterLink_within (s : LinkState) (h : Within w o d) : Within w o (enterLink s d) := by
  cases s with
  | offline => exact h.unseen rfl
  | loggingOn | lost => exact queueLogon_within h
  | online => exact (endLogon_within h).unseen rfl
  | refused => exact endLogon_within h

@[simp] theorem linkActions_within (link : w .link) (s : LinkState) (h : Within w o d) :
    Within w o (linkActions s d) := by
  have entered := enterLink_within s (h.withLink link s)
  unfold linkActions
  dsimp only
  split
  · exact entered.unseen rfl
  · exact entered

@[simp] theorem linkTo_within (doors : w .doors) (link : w .link) (s : LinkState) (v : LinkEvent)
    (h : Within w o d) : Within w o (linkTo s v d) :=
  reportCauses_within doors (setCondition_within _ _ (notify_within _ (linkActions_within link s h)))

@[simp] theorem linkCommit_within (doors : w .doors) (link : w .link) (h : Within w o d) :
    Within w o (linkCommit d) := by
  unfold linkCommit
  (repeat' split) <;> simp [h, doors, link]

@[simp] theorem silenceExpires_within (doors : w .doors) (link : w .link) (h : Within w o d) :
    Within w o (silenceExpires d) := by
  unfold silenceExpires
  split <;> simp [h, doors, link]

@[simp] theorem judgeShadow_within (doors : w .doors) (link : w .link) (h : Within w o d) :
    Within w o (judgeShadow d) := by
  have judged : Within w o { d with vru := { d.vru with shadow := frontInShadow d } } := h.unseen rfl
  unfold judgeShadow
  dsimp only
  (repeat' split)
  · exact h
  · exact silenceExpires_within doors link judged
  · exact judged

/-! ### Acknowledgements and the transmitters -/

@[simp] theorem pushAck_within (n : Byte) (r : Result) (h : Within w o d) :
    Within w o (pushAck n r d) := by
  unfold pushAck
  split
  · exact h.unseen rfl
  · exact h

@[simp] theorem acknowledge_within (n : Byte) (h : Within w o d) : Within w o (acknowledge n d) := by
  unfold acknowledge
  (repeat' split)
  · exact h.unseen rfl
  · exact h
  · exact h

@[simp] theorem ackTimeout_within (n : Byte) (h : Within w o d) : Within w o (ackTimeout n d) := by
  unfold ackTimeout
  (repeat' split)
  · exact h.unseen rfl
  · exact notify_within _ (h.unseen rfl)
  · exact h
  · exact h

@[simp] theorem telegramEnd_within (h : Within w o d) : Within w o (telegramEnd d) := by
  unfold telegramEnd
  dsimp only
  (repeat' split)
  · exact h
  · exact h.unseen rfl
  · exact h.unseen rfl

@[simp] theorem radioPump_within (h : Within w o d) : Within w o (radioPump d) := by
  unfold radioPump
  (repeat' split)
  · exact h
  · exact h.unseen rfl
  · exact h.unseen rfl
  · exact h

@[simp] theorem linkPump_within (h : Within w o d) : Within w o (linkPump d) := by
  unfold linkPump
  (repeat' split)
  · exact h
  · exact h.unseen rfl
  · exact h.unseen rfl
  · exact h

@[simp] theorem finish_within (h : Within w o d) : Within w o (finish d) :=
  linkPump_within (radioPump_within (busPump_within h))

/-! ### The authority unit -/

@[simp] theorem setAuthority_within (a : Option Authority) (t : Option Timer) (h : Within w o d) :
    Within w o (setAuthority a t d) := rollawayTest_within (h.unseen rfl)

@[simp] theorem takeGrant_within (p : List Byte) (h : Within w o d) : Within w o (takeGrant p d).1 := by
  unfold takeGrant
  dsimp only
  (repeat' split) <;> simp [h]

@[simp] theorem takeShorten_within (p : List Byte) (h : Within w o d) :
    Within w o (takeShorten p d).1 := by
  unfold takeShorten
  split
  · exact h
  · exact h.unseen rfl

@[simp] theorem withdrawAuthority_within (h : Within w o d) : Within w o (withdrawAuthority d) := by
  unfold withdrawAuthority
  (repeat' split)
  · exact h
  · exact setAuthority_within _ _ h
  · exact h.unseen rfl
  · exact setAuthority_within _ _ h

@[simp] theorem tighten_within (r : Restriction) (h : Within w o d) : Within w o (tighten r d) :=
  h.unseen rfl

@[simp] theorem stage_within (s : Staged) (r : Result) (h : Within w o d) :
    Within w o (stage s r d).1 := by
  unfold stage
  dsimp only
  split
  · exact h.unseen rfl
  · exact h

@[simp] theorem noticePending_within (b : Bool) {x : Device × Result} (h : Within w o x.1) :
    Within w o (noticePending b x).1 := by
  unfold noticePending
  split <;> simp [h]

@[simp] theorem takeRestriction_within (p : List Byte) (h : Within w o d) :
    Within w o (takeRestriction p d).1 := by
  unfold takeRestriction
  split
  · exact h
  · apply noticePending_within
    (repeat' split) <;> simp [h]

@[simp] theorem takeLift_within (p : List Byte) (h : Within w o d) : Within w o (takeLift p d).1 := by
  unfold takeLift
  dsimp only
  (repeat' split) <;> simp [h]

@[simp] theorem judgeRoom_within (h : Within w o d) : Within w o (judgeRoom d) := by
  unfold judgeRoom
  split <;> simp [h]

@[simp] theorem updateRestrictions_within (h : Within w o d) : Within w o (updateRestrictions d) :=
  judgeRoom_within (h.unseen rfl)

@[simp] theorem setStopOrder_within (b : Bool) (h : Within w o d) : Within w o (setStopOrder b d) :=
  setCondition_within _ _ (h.unseen rfl)

/-! ### Telegrams -/

@[simp] theorem logonAnswer_within (doors : w .doors) (link : w .link) (b : Byte)
    (h : Within w o d) : Within w o (logonAnswer b d) := by
  unfold logonAnswer
  (repeat' split) <;> simp [h, doors, link]

@[simp] theorem handToAru_within (k : DownKind) (p : List Byte) (h : Within w o d) :
    Within w o (handToAru k p d).1 := by
  unfold handToAru
  split <;> simp [h]

@[simp] theorem takeAcknowledged_within (window : w .window) (k : DownKind) (t : Telegram)
    (h : Within w o d) : Within w o (takeAcknowledged k t d) := by
  unfold takeAcknowledged
  (repeat' split)
  · exact pushAck_within _ _ h
  · exact pushAck_within _ _ h
  · exact pushAck_within _ _ (enterWindow_within window _ _ (handToAru_within k t.payload h))

/-- The records a telegram of a kind may write: the link state by a LOGON_ACCEPT, with the release it may
end, and the duplicate window by the acknowledged kinds. -/
def Heard (w : Record → Prop) (k : DownKind) : Prop :=
  (k = .logonAccept → w .doors ∧ w .link) ∧ (k ∉ radioKinds → w .window)

theorem actOn_within {k : DownKind} (heard : Heard w k) (t : Telegram) (h : Within w o d) :
    Within w o (actOn k t d) := by
  obtain ⟨logon, window⟩ := heard
  cases k with
  | unknown => exact h
  | logonAccept =>
    obtain ⟨doors, link⟩ := logon rfl
    simp only [actOn]
    split <;> simp [h, doors, link]
  | uplinkAck =>
    simp only [actOn]
    split
    · exact foldl_within (fun n => acknowledge_within n) _ h
    · exact h
  | poll =>
    simp only [actOn]
    split <;> simp [h]
  | _ => exact takeAcknowledged_within (window (by decide)) _ t h

@[simp] theorem restartSilence_within (h : Within w o d) : Within w o (restartSilence d) := by
  unfold restartSilence
  split
  · exact h.unseen rfl
  · exact h

theorem takeValid_within {k : DownKind} (heard : Heard w k) (t : Telegram) (h : Within w o d) :
    Within w o (takeValid k t d) := by
  unfold takeValid
  dsimp only
  (repeat' split)
  · exact actOn_within heard t (restartSilence_within h)
  · exact restartSilence_within h
  · exact h

theorem takeTelegram_within {k : DownKind} (heard : Heard w k) (t : Telegram) (h : Within w o d) :
    Within w o (takeTelegram k t d) := takeValid_within heard t (h.unseen rfl)

end Sys2Proof.Machine
end

section
/-! What each request and each event may write of the records. -/

namespace Sys2Proof.Machine

variable {w : Record → Prop} {o d : Device}

/-! ### Frames and requests -/

@[simp] theorem dropFrame_within (h : Within w o d) : Within w o (dropFrame d) := h.unseen rfl

@[simp] theorem hearFrame_within (h : Within w o d) : Within w o (hearFrame d) :=
  setCondition_within _ _ (h.unseen rfl)

@[simp] theorem validFrame_within (h : Within w o d) : Within w o (validFrame d) :=
  hearFrame_within (dropFrame_within h)

@[simp] theorem reply_within (tag : Byte) (r : Option Reason) (x : ReplyData) (h : Within w o d) :
    Within w o (reply tag r x d) := h.unseen rfl

theorem answerFrame_within (q : Req) {body : Device → Answered}
    (hb : ∀ {x : Device}, Within w o x → Within w o (body x).dev) (h : Within w o d) :
    Within w o (answerFrame q body d) := by
  unfold answerFrame
  (repeat' split)
  · exact h
  · exact reply_within _ _ _ (hb h)
  · exact reply_within _ _ _ h

theorem request_within (q : Req) {body : Device → Answered}
    (hb : ∀ {x : Device}, Within w o x → Within w o (body x).dev) (h : Within w o d) :
    Within w o (request q body d) := answerFrame_within q hb (validFrame_within h)

theorem judged_within {checks : List (Bool × Reason)} {run : Device → Answered} (h : Within w o d)
    (ran : Within w o (run d).dev) : Within w o (judged checks run d).dev := by
  unfold judged
  split
  · exact h
  · exact ran

@[simp] theorem query_within (snapshot : w .snapshot) (k : QueryKind) (part : Byte)
    (f : Device → Contents) (h : Within w o d) : Within w o (query k part f d).dev := by
  unfold query
  split
  · rw [answerPart_dev]
    exact h.withSnapshot snapshot _
  · rw [answerPart_dev]
    exact h

/-! ### Mode and configuration -/

@[simp] theorem linkFlagCleared_within (doors : w .doors) (link : w .link) (h : Within w o d) :
    Within w o (linkFlagCleared d) := by
  unfold linkFlagCleared
  split <;> simp [h, doors, link]

@[simp] theorem configureSilence_within (c : CarConfig) (h : Within w o d) :
    Within w o (configureSilence c d) := by
  unfold configureSilence
  (repeat' split)
  · exact setCondition_within _ _ (h.unseen rfl)
  · exact h.unseen rfl
  · exact h

theorem configure_within (odometry : w .odometry) (doors : w .doors) (link : w .link) (c : CarConfig)
    (h : Within w o d) : Within w o (configure c d) := by
  have taken : Within w o (linkFlagCleared
      { d with mdc := { d.mdc with config := some c }, prs := { d.prs with valid := false } }) :=
    linkFlagCleared_within doors link (h.unseen rfl)
  exact configureSilence_within c (refreshModeEntry_within
    (placeAgain_within odometry doors (taken.withOdu odometry _)))

@[simp] theorem askConfigure_within (odometry : w .odometry) (doors : w .doors) (link : w .link)
    (c : CarConfig) (h : Within w o d) : Within w o (askConfigure c d).dev := by
  refine judged_within h ?_
  split
  · exact h
  · exact configure_within odometry doors link c h

@[simp] theorem askOrientation_within (odometry : w .odometry) (doors : w .doors) (v : Option Dir)
    (h : Within w o d) : Within w o (askOrientation v d).dev :=
  judged_within h (placeAgain_within odometry doors (h.unseen rfl))

@[simp] theorem askEnterService_within (doors : w .doors) (h : Within w o d) :
    Within w o (askEnterService d).dev := judged_within h (changeMode_within doors _ h)

@[simp] theorem askEnterStabled_within (doors : w .doors) (h : Within w o d) :
    Within w o (askEnterStabled d).dev := by
  unfold askEnterStabled
  split
  · exact judged_within h (changeMode_within doors _ h)
  · exact judged_within h (changeMode_within doors _ h)
  · exact changeMode_within doors _ (h.unseen rfl)
  · exact h
  · exact h

@[simp] theorem askWake_within (doors : w .doors) (h : Within w o d) :
    Within w o (askWake d).dev := by
  unfold askWake
  split
  · exact changeMode_within doors _ (h.unseen rfl)
  · exact h
  · exact h

@[simp] theorem askEnterPreparation_within (doors : w .doors) (h : Within w o d) :
    Within w o (askEnterPreparation d).dev :=
  judged_within h (changeMode_within doors _ (h.unseen rfl))

@[simp] theorem wakeExpires_within (doors : w .doors) (h : Within w o d) :
    Within w o (wakeExpires d) := by
  unfold wakeExpires
  split
  · exact changeMode_within doors _ (updateRestrictions_within (h.unseen rfl))
  · exact h

@[simp] theorem askRestart_within (h : Within w o d) : Within w o (askRestart d).dev :=
  judged_within h (h.unseen rfl)

@[simp] theorem askResetRecord_within (h : Within w o d) : Within w o (askResetRecord d).dev := h

@[simp] theorem askClearResetRecord_within (h : Within w o d) :
    Within w o (askClearResetRecord d).dev := h.unseen rfl

/-! ### Profile -/

@[simp] theorem askLoadLine_within (l : BitVec 24) (v : BitVec 32) (h : Within w o d) :
    Within w o (askLoadLine l v d).dev := judged_within h (h.unseen rfl)

@[simp] theorem askLoadSegment_within (i : Byte) (r : SegmentBytes) (h : Within w o d) :
    Within w o (askLoadSegment i r d).dev := by
  refine judged_within h ?_
  split
  · exact h.unseen rfl
  · exact h

@[simp] theorem askLoadStation_within (i : Byte) (r : StationBytes) (h : Within w o d) :
    Within w o (askLoadStation i r d).dev := by
  refine judged_within h ?_
  split
  · exact h.unseen rfl
  · exact h

@[simp] theorem askLoadMarker_within (i : Byte) (r : MarkerRec) (h : Within w o d) :
    Within w o (askLoadMarker i r d).dev := judged_within h (h.unseen rfl)

@[simp] theorem askClearLoad_within (h : Within w o d) : Within w o (askClearLoad d).dev :=
  judged_within h (h.unseen rfl)

theorem handOverCommit_within (odometry : w .odometry) (doors : w .doors) (link : w .link) (b : Bool)
    (h : Within w o d) : Within w o (handOverCommit b d) := by
  unfold handOverCommit
  split
  · exact linkCommit_within doors link (placeAgain_within odometry doors h)
  · exact linkCommit_within doors link (judgeShadow_within doors link
      (placeAgain_within odometry doors (h.withOdu odometry _)))

@[simp] theorem askCommit_within (odometry : w .odometry) (doors : w .doors) (link : w .link)
    (h : Within w o d) : Within w o (askCommit d).dev := by
  refine judged_within h ?_
  split
  · exact h
  · exact handOverCommit_within odometry doors link _ (h.unseen rfl)

@[simp] theorem askProfileInfo_within (h : Within w o d) : Within w o (askProfileInfo d).dev := h

@[simp] theorem askSegment_within (i : Nat) (h : Within w o d) : Within w o (askSegment i d).dev := by
  unfold askSegment
  (repeat' split) <;> exact h

/-! ### Odometry -/

theorem sourceTooth_within (odometry : w .odometry) (doors : w .doors) (which : Bogie) (x : Sense)
    (h : Within w o d) : Within w o (sourceTooth which x d) := by
  unfold sourceTooth
  (repeat' split) <;> simp [h, odometry, doors]

@[simp] theorem rackTooth_within (odometry : w .odometry) (doors : w .doors) (which : Bogie)
    (x : Sense) (h : Within w o d) : Within w o (rackTooth which x d) := by
  have meshed := rackToothMesh_within odometry doors which (countEdge_within odometry doors h)
  unfold rackTooth
  dsimp only
  split
  · exact sourceTooth_within odometry doors which x meshed
  · exact meshed

@[simp] theorem meshWindowTooth_within (odometry : w .odometry) (doors : w .doors) (which : Bogie)
    (x : Sense) (h : Within w o d) : Within w o (meshWindowTooth which x d) := by
  unfold meshWindowTooth
  dsimp only
  split <;> simp [h, odometry, doors]

@[simp] theorem calibrationTooth_within (odometry : w .odometry) (doors : w .doors)
    (h : Within w o d) : Within w o (calibrationTooth d) := by
  unfold calibrationTooth
  (repeat' split) <;> simp [h, odometry, doors]

@[simp] theorem pinionTooth_within (odometry : w .odometry) (doors : w .doors) (which : Bogie)
    (h : Within w o d) : Within w o (pinionTooth which d) :=
  pinionToothMesh_within odometry which (countEdge_within odometry doors h)

@[simp] theorem wheelPulse_within (odometry : w .odometry) (doors : w .doors) (x : Sense)
    (h : Within w o d) : Within w o (wheelPulse x d) := by
  have counted := calPulse_within odometry x (countEdge_within odometry doors h)
  have run := fun r n => missingRack_within odometry doors n .b
    (missingRack_within odometry doors n .a (counted.withOdu odometry r))
  unfold wheelPulse
  dsimp only
  (repeat' split)
  · exact takeDistance_within odometry doors _ _ _ (run _ _)
  · exact run _ _
  · exact counted

theorem setByMarker_within (odometry : w .odometry) (doors : w .doors) (link : w .link)
    (c : CarConfig) (x : Dir) (m : MarkerRec) (a b : Bool) (h : Within w o d) :
    Within w o (setByMarker c x m a b d) :=
  judgeShadow_within doors link (placeAgain_within odometry doors (h.withOdu odometry _))

@[simp] theorem readMarker_within (odometry : w .odometry) (doors : w .doors) (link : w .link)
    (i : BitVec 16) (h : Within w o d) : Within w o (readMarker i d) := by
  have set := fun c x m a b => setByMarker_within odometry doors link c x m a b h
  unfold readMarker
  (repeat' split) <;> simp [h, set]

@[simp] theorem askSetPosition_within (odometry : w .odometry) (doors : w .doors) (link : w .link)
    (x u : Nat) (h : Within w o d) : Within w o (askSetPosition x u d).dev :=
  judged_within h (judgeShadow_within doors link
    (placeAgain_within odometry doors (h.withOdu odometry _)))

@[simp] theorem sampleHandle_within (x : Nat) (b : Bool) (h : Within w o d) :
    Within w o (sampleHandle x b d) := by
  have raised := raiseWith_within .driverHandle (handleDemand d.mdc.config x b).1
    (handleDemand d.mdc.config x b).2
    (d := { d with bdt := { d.bdt with handleFaulty := handleIsFaulty x b } }) (h.unseen rfl)
  unfold sampleHandle
  dsimp only
  split
  · exact notify_within _ raised
  · exact raised

@[simp] theorem judgeAlarm_within (h : Within w o d) : Within w o (judgeAlarm d) :=
  bdtEntry_within _ (judgeAlarmEntry_row _) h

@[simp] theorem speedSample_within (odometry : w .odometry) (doors : w .doors) (link : w .link)
    (x : Nat) (b : Bool) (h : Within w o d) : Within w o (speedSample x b d) := by
  have sampled : Within w o (sampleSpeed d) := h.withOdu odometry _
  have read := judgeAlarm_within (sampleHandle_within x b
    (evaluate_within (rackEntryTest_within (countQuiet_within odometry sampled))))
  exact judgeShadow_within doors link (judgeRelease_within doors (refreshBrakes_within read))

/-! ### Brakes and the brake test -/

@[simp] theorem askReaction_within (rows : w .rows) (n : Nat) (l : Option Level)
    (m : Option LatchMode) (h : Within w o d) : Within w o (askReaction n l m d).dev := by
  have written : ∀ src l m, Within w o (bdtEvent (onEntry src (newRow l m)) d) :=
    fun _ _ _ => bdtEvent_within (fun shut => absurd rows shut) h
  unfold askReaction
  (repeat' split) <;> simp [h, written]

theorem releaseEntry_within (odometry : w .odometry) (doors : w .doors) (src : Source)
    (h : Within w o d) : Within w o (releaseEntry src d) := by
  have released := bdtEntry_within src releasedEntry_row h
  unfold releaseEntry
  dsimp only
  split
  · exact recoverBogies_within odometry doors released
  · exact released

@[simp] theorem askAck_within (odometry : w .odometry) (doors : w .doors) (n : Nat)
    (h : Within w o d) : Within w o (askAck n d).dev := by
  unfold askAck
  (repeat' split)
  · exact h
  · exact h
  · exact h
  · exact releaseEntry_within odometry doors _ h

@[simp] theorem askBrakeRequest_within (l : Option Level) (n : Nat) (h : Within w o d) :
    Within w o (askBrakeRequest l n d).dev := by
  unfold askBrakeRequest
  split
  · exact h
  · exact judged_within h (raiseWith_within _ _ _ h)

@[simp] theorem feedbackEdge_within (doors : w .doors) (ch : Channel) (b : Bool) (h : Within w o d) :
    Within w o (feedbackEdge ch b d) := by
  refine judgeRelease_within doors ?_
  split
  · exact judgeChannel_within ch (h.unseen rfl)
  · exact h.unseen rfl

@[simp] theorem feedbackExpires_within (ch : Channel) (h : Within w o d) :
    Within w o (feedbackExpires ch d) := by
  unfold feedbackExpires
  dsimp only
  split
  · exact judgeChannel_within ch (h.unseen rfl)
  · exact h

@[simp] theorem phaseExpires_within (h : Within w o d) : Within w o (phaseExpires d) := by
  unfold phaseExpires
  split
  case h_1 r running =>
    split
    · exact nextPhase_within r (fun idle => by simp [running] at idle) h
    · exact h
  case h_2 => exact h

@[simp] theorem askStopTest_within (h : Within w o d) : Within w o (askStopTest d).dev := by
  unfold askStopTest
  split
  case h_1 => exact h
  case h_2 r running => exact endTest_within _ _ (fun idle => by simp [running] at idle) h

theorem beginTest_within (test : w .test) (x : Option (Nat × Nat)) (h : Within w o d) :
    Within w o (beginTest x d) :=
  beginPhase_within _ _ (fun _ => test) (h.moved rfl fun _ => .inl test)

@[simp] theorem askStartTest_within (doors : w .doors) (test : w .test) (x : Option (Nat × Nat))
    (h : Within w o d) : Within w o (askStartTest x d).dev :=
  judged_within h (rollawayTest_within (changeMode_within doors _
    (judgeRelease_within doors (beginTest_within test x h))))

/-! ### Doors and the door bus -/

@[simp] theorem grantRelease_within (doors : w .doors) (x : Side) (h : Within w o d) :
    Within w o (grantRelease x d) :=
  judgeDoorConditions_within (eachDoor_within doors _ (h.withDcu doors _))

@[simp] theorem askReleaseDoors_within (doors : w .doors) (x : Option Side) (h : Within w o d) :
    Within w o (askReleaseDoors x d).dev := by
  cases x with
  | none => exact judged_within h h
  | some x => exact judged_within h (by simp [h, doors])

theorem closeDoors_within (doors : w .doors) (x : SideSel) (h : Within w o d) :
    Within w o (closeDoors x d) := eachDoor_within doors _ (h.withDcu doors _)

@[simp] theorem askCloseDoors_within (doors : w .doors) (x : Option SideSel) (h : Within w o d) :
    Within w o (askCloseDoors x d).dev := by
  unfold askCloseDoors
  split
  · exact h
  · exact judged_within h (closeDoors_within doors _ h)

@[simp] theorem dwellExpires_within (doors : w .doors) (n : DoorNo) (h : Within w o d) :
    Within w o (dwellExpires n d) := by
  unfold dwellExpires
  dsimp only
  split <;> simp [h, doors]

theorem isolate_within (doors : w .doors) (links : w .links) (n : DoorNo) (h : Within w o d) :
    Within w o (isolate n d) := by
  unfold isolate
  split
  · exact h
  · exact judgeDoorConditions_within (isolateUnit_within links n (setDoor_within doors n _ h))

@[simp] theorem askIsolate_within (doors : w .doors) (links : w .links) (n : Nat)
    (h : Within w o d) : Within w o (askIsolate n d).dev := by
  unfold askIsolate
  split
  · exact h
  · exact judged_within h (isolate_within doors links _ h)

@[simp] theorem askDeisolate_within (doors : w .doors) (n : Nat) (h : Within w o d) :
    Within w o (askDeisolate n d).dev := by
  unfold askDeisolate
  split
  · exact h
  · exact judged_within h (judgeDoorConditions_within (setDoor_within doors _ _ h))

@[simp] theorem pollEnd_within (h : Within w o d) : Within w o (pollEnd d) := by
  unfold pollEnd
  (repeat' split)
  · exact h.unseen rfl
  · exact h
  · exact h

@[simp] theorem repeatPoll_within (h : Within w o d) : Within w o (repeatPoll d) := by
  unfold repeatPoll
  (repeat' split)
  · exact h.unseen rfl
  · exact h
  · exact h

@[simp] theorem askClearFlags_within (links : w .links) (n : Nat) (h : Within w o d) :
    Within w o (askClearFlags n d).dev := by
  unfold askClearFlags
  (repeat' split)
  · exact h.withDbm links _
  · exact mapLink_within links _ _ h
  · exact h

/-! ### The radio port and the authority unit -/

@[simp] theorem logonExpires_within (h : Within w o d) : Within w o (logonExpires d) := by
  unfold logonExpires
  split
  · exact h.unseen rfl
  · exact h

@[simp] theorem reportExpires_within (h : Within w o d) : Within w o (reportExpires d) := by
  unfold reportExpires
  split
  · exact callPosition_within (h.unseen rfl)
  · exact h

theorem takeComplete_within (heard : ∀ k, Heard w k) (f : List Byte) (h : Within w o d) :
    Within w o (takeComplete f d) := by
  unfold takeComplete
  split
  · exact takeValid_within (heard _) _ h
  · exact h

theorem takeModemBytes_within (heard : ∀ k, Heard w k) (b : List Byte) (h : Within w o d) :
    Within w o (takeModemBytes b d) :=
  foldl_within (fun f hx => finish_within (takeComplete_within heard f hx)) _ (h.unseen rfl)

@[simp] theorem authorityExpires_within (h : Within w o d) : Within w o (authorityExpires d) := by
  unfold authorityExpires
  split <;> simp [h]

theorem selectDir_within (odometry : w .odometry) (doors : w .doors) (link : w .link)
    (x : Option Dir) (h : Within w o d) : Within w o (selectDir x d) := by
  unfold selectDir
  split
  · exact h
  · exact judgeShadow_within doors link
      (Within.withOdu odometry _ (d := { d with aru := { d.aru with selDir := x } }) (h.unseen rfl))

@[simp] theorem askSelectDirection_within (odometry : w .odometry) (doors : w .doors) (link : w .link)
    (x : Option (Option Dir)) (h : Within w o d) : Within w o (askSelectDirection x d).dev := by
  unfold askSelectDirection
  split
  · exact h
  · exact judged_within h (selectDir_within odometry doors link _ h)

@[simp] theorem askAuthority_within (h : Within w o d) : Within w o (askAuthority d).dev := by
  unfold askAuthority
  dsimp only
  (repeat' split)
  · exact h
  · exact queueEntry_within _ _ h
  · exact queueEntry_within _ _ h

@[simp] theorem askAddRestriction_within (i a b l : Nat) (x : Option AppliesTo) (h : Within w o d) :
    Within w o (askAddRestriction i a b l x d).dev := by
  unfold askAddRestriction
  split
  · exact h
  · exact h
  · exact judged_within h (h.unseen rfl)

@[simp] theorem askLiftRestriction_within (i : Nat) (h : Within w o d) :
    Within w o (askLiftRestriction i d).dev := by
  unfold askLiftRestriction
  split
  · exact h
  · exact judged_within h (judgeRoom_within (h.unseen rfl))

@[simp] theorem askAcceptRelaxations_within (h : Within w o d) :
    Within w o (askAcceptRelaxations d).dev := updateRestrictions_within h

/-! ### The car link -/

@[simp] theorem askStatus_within (h : Within w o d) : Within w o (askStatus d).dev := h.unseen rfl

@[simp] theorem linkSilenceExpires_within (h : Within w o d) : Within w o (linkSilenceExpires d) := by
  unfold linkSilenceExpires
  split
  · exact setCondition_within _ _ (h.unseen rfl)
  · exact h

end Sys2Proof.Machine
end

section
/-! What every command may write of the records, and the clock that none moves: O3 and O60. -/

namespace Sys2Proof.Machine

variable {w : Record → Prop} {o d : Device}

/-! ### Resets and raw bytes: only the clock counts -/

@[simp] theorem startConditions_within (h : Within w o d) : Within w o (startConditions d) :=
  setCondition_within _ _ (setCondition_within _ _ (setCondition_within _ _ h))

@[simp] theorem startedNotice_within (h : Within w o d) : Within w o (startedNotice d) :=
  notify_within _ h

@[simp] theorem judgeFirstSample_within (r : Nat) (h : Within w o d) :
    Within w o (judgeFirstSample r d) := by
  unfold judgeFirstSample
  dsimp only
  split
  · exact notify_within _ (setCondition_within _ _ (h.unseen rfl))
  · exact h.unseen rfl

theorem coldStart_within (all : ∀ r, w r) (r : Nat) (d : Device) : Within w d (coldStart r d) :=
  startConditions_within (judgeFirstSample_within r (startedNotice_within (.of_clock rfl all)))

theorem watchSample_within (all : ∀ r, w r) (r : Nat) (d : Device) : Within w d (watchSample r d) := by
  have same : Within w d d := .refl d
  unfold watchSample
  dsimp only
  split
  · exact .of_clock rfl all
  · apply finish_within
    (repeat' split)
    · exact judgeFirstSample_within r same
    · exact notify_within _ (setCondition_within _ _ (same.unseen rfl))
    · exact notify_within _ (setCondition_within _ _ (same.unseen rfl))
    · exact same.unseen rfl

theorem takeBatterySample_within (all : ∀ r, w r) (r : Nat) (d : Device) :
    Within w d (takeBatterySample r d) := by
  unfold takeBatterySample
  (repeat' split)
  · exact finish_within (coldStart_within all r d)
  · exact (Within.refl d).unseen rfl
  · exact watchSample_within all r d

@[simp] theorem restartReports_within (m : Mode) (h : Within w o d) :
    Within w o (restartReports m d) := by
  unfold restartReports
  dsimp only
  (repeat' split)
  · exact callPosition_within (modeNotice_within (h.unseen rfl))
  · exact h.unseen rfl
  · exact modeNotice_within (h.unseen rfl)

theorem warmRestart_within (all : ∀ r, w r) (d : Device) : Within w d (warmRestart d) := by
  have begun : Within w d (restartBegun d) :=
    startedNotice_within (setOutputs_within (.of_clock rfl all))
  have started := restartReports_within d.mdc.mode (startConditions_within begun)
  rw [warmRestart_eq]
  dsimp only
  split
  · exact linkTo_within (all _) (all _) _ _ started
  · exact started

theorem restartIfAccepted_within (all : ∀ r, w r) (d : Device) :
    Within w d (restartIfAccepted d) := by
  unfold restartIfAccepted
  (repeat' split)
  · exact warmRestart_within all d
  · exact .refl d
  · exact .refl d

theorem frameEnd_within (all : ∀ r, w r) (d : Device) : Within w d (frameEnd d) := by
  have freed : Within w d (freeTransmitter d) := (Within.refl d).unseen rfl
  unfold frameEnd
  (repeat' split)
  · exact warmRestart_within all d
  · exact freed
  · exact freed

theorem requestBody_within (all : ∀ r, w r) (kind : Nat) (p : List Byte) (h : Within w o d) :
    Within w o (requestBody kind p d).dev := by
  unfold requestBody
  split <;> simp [h, all]

theorem takeFrame_within (all : ∀ r, w r) (f : List Byte) (h : Within w o d) :
    Within w o (takeFrame f d) :=
  answerFrame_within _ (requestBody_within all _ _) (hearFrame_within h)

theorem takeLinkBytes_within (all : ∀ r, w r) (b : List Byte) (h : Within w o d) :
    Within w o (takeLinkBytes b d) :=
  foldl_within (fun f hx => finish_within (takeFrame_within all f hx)) _ (h.unseen rfl)

/-! ### What a command may write -/

/-- The commands that can change the odometry record (R36 to R62). -/
def writesOdometry : Instr → Bool
  | .rackToothEdge _ _ | .pinionToothEdge _ _ | .wheelPulse _ | .meshWindowEnd _ _
  | .calibrationWindowEnd | .markerRead _ | .setPosition _ _ _ | .speedSample _ _ | .standstillSet
  | .configureCar _ _ | .setOrientation _ _ | .commitProfile _ | .ackDemand _ _
  | .selectDirection _ _ => true
  | _ => false

/-- The commands that can change a link record of the door bus (R146 to R150). -/
def writesLinks : Instr → Bool
  | .doorAnswerReport _ | .doorAnswerWait _ | .badAnswer _ | .answerWindowClose | .isolateDoor _ _
  | .clearDoorFlags _ _ => true
  | _ => false

/-- The request that changes a row of the reaction table (R87). -/
def writesRows : Instr → Bool
  | .setReaction _ _ _ _ => true
  | _ => false

/-- The request that begins a brake test (R114). -/
def writesTest : Instr → Bool
  | .startBrakeTest _ _ => true
  | _ => false

/-- The commands named for a record in O60. -/
def Record.writtenBy : Record → Instr → Bool
  | .odometry => writesOdometry
  | .rows => writesRows
  | .links => writesLinks
  | .doors => Instr.changesDoors
  | .test => writesTest
  | .link => Instr.changesLink
  | .window => Instr.isAcknowledged
  | .snapshot => Instr.isLongQuery

/-- A command that can reset the part, or that can be any request: raw bytes that hold a valid frame. -/
def restarts (d : Device) : Instr → Prop
  | .powerOn | .batterySample _ | .warmRestart | .frameSent => True
  | .frameDiscarded b => validFrames b d ≠ []
  | _ => False

/-- The records that a command opens. -/
def opens (d : Device) (c : Instr) (r : Record) : Prop := restarts d c ∨ r.writtenBy c = true

theorem within_of_up {f : Device → Device} {e : Device} {s t : State} (line : Within w s.dev e)
    (h : Within w s.dev (f e)) (ht : become s (whenUp f e) = .next t) : Within w s.dev t.dev := by
  obtain rfl := Host.Outcome.next.inj ht
  unfold whenUp
  split
  · exact line
  · exact finish_within h

/-- A request's answer is its block's. -/
theorem within_of_request {q : Req} {body : Device → Answered} {s t : State}
    (hb : ∀ {x : Device}, Within w s.dev x → Within w s.dev (body x).dev)
    (ht : become s (whenUp (request q body) s.dev) = .next t) : Within w s.dev t.dev :=
  within_of_up (.refl _) (request_within q hb (.refl _)) ht

/-- A command of the telegrams writes what the kind it brings may write. -/
theorem within_of_telegram {k : DownKind} {x : Telegram} {s t : State} (heard : Heard w k)
    (ht : become s (whenUp (takeTelegram k x) s.dev) = .next t) : Within w s.dev t.dev :=
  within_of_up (.refl _) (takeTelegram_within heard x (.refl _)) ht

/-- Where the doors, the link state and the window are open every kind may be heard. -/
theorem Heard.of_open {k : DownKind} (doors : w .doors) (link : w .link) (window : w .window) :
    Heard w k := ⟨fun _ => ⟨doors, link⟩, fun _ => window⟩

/-- Every command writes only the records named for it: each row's operation has its lemma above. -/
theorem exec_within (c : Instr) (s t : State) (ht : exec c s = .next t) :
    Within (opens s.dev c) s.dev t.dev := by
  have same : Within (opens s.dev c) s.dev s.dev := .refl _
  cases c with
  | powerOn =>
    obtain rfl := Host.Outcome.next.inj ht
    exact .of_clock rfl fun _ => .inl trivial
  | batterySample r =>
    obtain rfl := Host.Outcome.next.inj ht
    exact takeBatterySample_within (fun _ => .inl trivial) r s.dev
  | warmRestart =>
    exact within_of_up same (restartIfAccepted_within (fun _ => .inl trivial) _) ht
  | frameSent => exact within_of_up same (frameEnd_within (fun _ => .inl trivial) _) ht
  | frameDiscarded b =>
    refine within_of_up same ?_ ht
    by_cases none : validFrames b s.dev = []
    · rw [takeLinkBytes_of_none b s.dev none]
      exact same.unseen rfl
    · exact takeLinkBytes_within (fun _ => .inl none) b same
  | configureCar q c =>
    exact within_of_request (askConfigure_within (.inr rfl) (.inr rfl) (.inr rfl) c) ht
  | setOrientation q v =>
    exact within_of_request (askOrientation_within (.inr rfl) (.inr rfl) v) ht
  | enterService => exact within_of_request (askEnterService_within (.inr rfl)) ht
  | enterStabled => exact within_of_request (askEnterStabled_within (.inr rfl)) ht
  | wake => exact within_of_request (askWake_within (.inr rfl)) ht
  | enterPreparation => exact within_of_request (askEnterPreparation_within (.inr rfl)) ht
  | commitProfile =>
    exact within_of_request (askCommit_within (.inr rfl) (.inr rfl) (.inr rfl)) ht
  | setPosition q x u =>
    exact within_of_request (askSetPosition_within (.inr rfl) (.inr rfl) (.inr rfl) x u) ht
  | setReaction q n l m => exact within_of_request (askReaction_within (.inr rfl) n l m) ht
  | ackDemand q n => exact within_of_request (askAck_within (.inr rfl) (.inr rfl) n) ht
  | startBrakeTest q x => exact within_of_request (askStartTest_within (.inr rfl) (.inr rfl) x) ht
  | releaseDoors q x => exact within_of_request (askReleaseDoors_within (.inr rfl) x) ht
  | closeDoors q x => exact within_of_request (askCloseDoors_within (.inr rfl) x) ht
  | isolateDoor q n => exact within_of_request (askIsolate_within (.inr rfl) (.inr rfl) n) ht
  | deisolateDoor q n => exact within_of_request (askDeisolate_within (.inr rfl) n) ht
  | clearDoorFlags q n => exact within_of_request (askClearFlags_within (.inr rfl) n) ht
  | selectDirection q x =>
    exact within_of_request (askSelectDirection_within (.inr rfl) (.inr rfl) (.inr rfl) x) ht
  | getOdometry | getSupervision | getDemands | getTest | getDoors | getAuthority
  | getRestrictions => exact within_of_request (query_within (.inr rfl) _ _ _) ht
  | restart | getResetRecord | clearResetRecord | loadLine | loadSegment | loadStation | loadMarker
  | clearLoad | getProfileInfo | getSegment | brakeRequest | stopBrakeTest | requestAuthority
  | addRestriction | liftRestriction | acceptRelaxations | getStatus =>
    exact within_of_request (fun h => by simp [h]) ht
  | unknownKind => exact within_of_request id ht
  | getRadio q part carrier =>
    have line : Within (opens s.dev (.getRadio q part carrier)) s.dev (withCarrier carrier s.dev) :=
      same.unseen rfl
    exact within_of_up line (request_within q (query_within (.inr rfl) _ _ _) line) ht
  | plungerEdge active =>
    have line : Within (opens s.dev (.plungerEdge active)) s.dev (withPlunger active s.dev) :=
      same.unseen rfl
    exact within_of_up line (setCondition_within _ _ line) ht
  | feedbackEdge ch released =>
    have line : Within (opens s.dev (.feedbackEdge ch released)) s.dev
        (withContact ch released s.dev) := by
      cases ch <;> exact same.unseen rfl
    exact within_of_up line (feedbackEdge_within (.inr rfl) _ _ line) ht
  | electricBrakeAvailableEdge active =>
    have line : Within (opens s.dev (.electricBrakeAvailableEdge active)) s.dev
        (withEdbLine active s.dev) := same.unseen rfl
    exact within_of_up line (refreshBrakes_within line) ht
  | logonAccept =>
    refine within_of_telegram ?_ ht
    exact ⟨fun _ => ⟨.inr rfl, .inr rfl⟩, fun h => absurd (by decide) h⟩
  | uplinkAck | poll =>
    refine within_of_telegram ?_ ht
    exact ⟨nofun, fun h => absurd (by decide) h⟩
  | authorityGrant | authorityShorten | authorityWithdraw | restrictionSet | restrictionLift
  | stopOrder | stopRelease =>
    refine within_of_telegram ?_ ht
    exact ⟨nofun, fun _ => .inr rfl⟩
  | unknownTelegramKind =>
    exact within_of_telegram (.of_open (.inr rfl) (.inr rfl) (.inr rfl)) ht
  | downlinkDiscarded b =>
    exact within_of_up same
      (takeModemBytes_within (fun _ => .of_open (.inr rfl) (.inr rfl) (.inr rfl)) b same) ht
  | rackToothEdge which x =>
    exact within_of_up same (rackTooth_within (.inr rfl) (.inr rfl) which x same) ht
  | meshWindowEnd which x =>
    exact within_of_up same (meshWindowTooth_within (.inr rfl) (.inr rfl) which x same) ht
  | calibrationWindowEnd =>
    exact within_of_up same (calibrationTooth_within (.inr rfl) (.inr rfl) same) ht
  | pinionToothEdge which x =>
    exact within_of_up same (pinionTooth_within (.inr rfl) (.inr rfl) which same) ht
  | wheelPulse x => exact within_of_up same (wheelPulse_within (.inr rfl) (.inr rfl) x same) ht
  | markerRead i =>
    exact within_of_up same (readMarker_within (.inr rfl) (.inr rfl) (.inr rfl) i same) ht
  | speedSample x b =>
    exact within_of_up same (speedSample_within (.inr rfl) (.inr rfl) (.inr rfl) x b same) ht
  | standstillSet => exact within_of_up same (twentiethQuiet_within (.inr rfl) same) ht
  | wakeTimerExpiry => exact within_of_up same (wakeExpires_within (.inr rfl) same) ht
  | reopenDwellExpiry n => exact within_of_up same (dwellExpires_within (.inr rfl) n same) ht
  | doorAnswerReport | doorAnswerWait | badAnswer =>
    exact within_of_up same (takeAnswer_within (.inr rfl) (.inr rfl) _ same) ht
  | answerWindowClose =>
    exact within_of_up same (windowCloses_within (.inr rfl) (.inr rfl) same) ht
  | silenceTimerExpiry =>
    exact within_of_up same (silenceExpires_within (.inr rfl) (.inr rfl) same) ht
  | telegramAssemblyTimeout => exact within_of_up same (same.unseen rfl) ht
  | feedbackTimerExpiry | phaseTimerExpiry | pollSent | repeatPoll | logonTimerExpiry
  | reportIntervalExpiry | ackTimeoutExpiry | telegramSent | authorityExpiry
  | frameAssemblyTimeout | linkSilenceTimerExpiry =>
    exact within_of_up same (by simp [same]) ht

/-! ### Every command answers -/

/-- Every row answers with a device and the queue as it was. -/
theorem exec_next (c : Instr) (s : State) : ∃ d, exec c s = .next (s.put d) := by
  cases c <;> exact ⟨_, rfl⟩

/-- Settles O3: the answer by rows, and the clock out of what the rows may write. -/
theorem everyCommandAnswers : Obligations.EveryCommandAnswers := by
  intro c s
  obtain ⟨d, answered⟩ := exec_next c s
  exact ⟨s.put d, answered, rfl, (exec_within c s _ answered).clock⟩

/-! ### The ten records -/

/-- Raw bytes without a valid frame touch neither the authority unit nor the supervision (R183). -/
theorem frameDiscarded_apart {b : List Byte} {s t : State} (none : validFrames b s.dev = [])
    (ht : exec (.frameDiscarded b) s = .next t) :
    t.dev.aru = s.dev.aru ∧ t.dev.ssv = s.dev.ssv := by
  have kept := takeLinkBytes_of_none b s.dev none
  exact ⟨aru_of_up rfl (by rw [kept, keepAssembly_aru]) ht,
    ssv_of_up rfl (by rw [kept, keepAssembly_ssv]) ht⟩

/-- Where a command is not named for a record and restarts nothing, the record is shut. -/
theorem not_opens {c : Instr} {r : Record} (calm : ¬ restarts d c) (unnamed : r.writtenBy c = false) :
    ¬ opens d c r := by
  simp [opens, calm, unnamed]

/-- Settles O60: eight records from `exec_within`, the authority unit and the supervision record from
`exec_aru` and `exec_ssv`, raw bytes apart. -/
theorem blockFrames : Obligations.BlockFrames := by
  intro c s t ht power sample warm sent frames
  have calm : ¬ restarts s.dev c := fun restart => by
    cases c with
    | powerOn => exact power rfl
    | batterySample r => exact sample r rfl
    | warmRestart => exact warm rfl
    | frameSent => exact sent rfl
    | frameDiscarded b => exact restart (frames b rfl)
    | _ => exact restart
  have within := exec_within c s t ht
  have shut {r : Record} (unnamed : r.writtenBy c = false) := not_opens calm unnamed
  refine ⟨?authority, ?odometry, ?rows, ?links, fun unnamed => within.doors (shut unnamed),
    ?supervision, ?test, fun unnamed => within.link (shut unnamed),
    fun unnamed => within.window (shut unnamed), fun unnamed => within.snapshot (shut unnamed)⟩
  case authority =>
    intro grant shorten withdraw set lift stop release unknown discarded expiry wake select add drop
      relax speed still
    cases c with
    | powerOn | batterySample | warmRestart | frameSent => exact absurd trivial calm
    | frameDiscarded bytes => exact (frameDiscarded_apart (frames bytes rfl) ht).1
    | authorityGrant x => exact absurd rfl (grant x)
    | authorityShorten x => exact absurd rfl (shorten x)
    | authorityWithdraw x => exact absurd rfl (withdraw x)
    | restrictionSet x => exact absurd rfl (set x)
    | restrictionLift x => exact absurd rfl (lift x)
    | stopOrder x => exact absurd rfl (stop x)
    | stopRelease x => exact absurd rfl (release x)
    | unknownTelegramKind k x => exact absurd rfl (unknown k x)
    | downlinkDiscarded x => exact absurd rfl (discarded x)
    | authorityExpiry => exact absurd rfl expiry
    | wakeTimerExpiry => exact absurd rfl wake
    | selectDirection q x => exact absurd rfl (select q x)
    | addRestriction q i a b l p => exact absurd rfl (add q i a b l p)
    | liftRestriction q i => exact absurd rfl (drop q i)
    | acceptRelaxations q => exact absurd rfl (relax q)
    | speedSample h f => exact absurd rfl (speed h f)
    | standstillSet => exact absurd rfl still
    | _ => exact exec_aru _ s t id ht
  case odometry =>
    intro rack pinion wheel mesh calibration marker position speed still configure orient commit ack
      select
    refine within.odometry (shut ?_)
    cases c with
    | rackToothEdge which x => exact absurd rfl (rack which x)
    | pinionToothEdge which x => exact absurd rfl (pinion which x)
    | wheelPulse x => exact absurd rfl (wheel x)
    | meshWindowEnd which x => exact absurd rfl (mesh which x)
    | calibrationWindowEnd => exact absurd rfl calibration
    | markerRead m => exact absurd rfl (marker m)
    | setPosition q x u => exact absurd rfl (position q x u)
    | speedSample h f => exact absurd rfl (speed h f)
    | standstillSet => exact absurd rfl still
    | configureCar q r => exact absurd rfl (configure q r)
    | setOrientation q v => exact absurd rfl (orient q v)
    | commitProfile q => exact absurd rfl (commit q)
    | ackDemand q n => exact absurd rfl (ack q n)
    | selectDirection q x => exact absurd rfl (select q x)
    | _ => rfl
  case rows =>
    intro reaction
    refine within.rows (shut ?_)
    cases c with
    | setReaction q n l m => exact absurd rfl (reaction q n l m)
    | _ => rfl
  case links =>
    intro report wait bad closes isolate clear
    refine within.links (shut ?_)
    cases c with
    | doorAnswerReport a => exact absurd rfl (report a)
    | doorAnswerWait a => exact absurd rfl (wait a)
    | badAnswer b => exact absurd rfl (bad b)
    | answerWindowClose => exact absurd rfl closes
    | isolateDoor q k => exact absurd rfl (isolate q k)
    | clearDoorFlags q u => exact absurd rfl (clear q u)
    | _ => rfl
  case supervision =>
    intro unnamed
    cases c with
    | powerOn | batterySample | warmRestart | frameSent => exact absurd trivial calm
    | frameDiscarded bytes => exact (frameDiscarded_apart (frames bytes rfl) ht).2
    | _ => exact exec_ssv _ s t unnamed id ht
  case test =>
    intro start
    refine within.test (shut ?_)
    cases c with
    | startBrakeTest q h => exact absurd rfl (start q h)
    | _ => rfl

end Sys2Proof.Machine
end

section
/-! The step over the queue (O1, O2). -/

namespace Sys2Proof.Machine

/-- Settles O1: `step` takes the front command off the queue before it runs it. -/
theorem stepRunsTheFrontCommand : Obligations.StepRunsTheFrontCommand := fun _ _ _ => rfl

/-- Settles O2: the other branch of `step`. -/
theorem emptyQueueLetsTimePass : Obligations.EmptyQueueLetsTimePass := fun _ => rfl

end Sys2Proof.Machine
end
